-- ==== Sys2Proof/Word.lean ====
section
/-! DEFINITION. The machine word. All link transfers of the part are 32-bit words (00_scope, Signals);
bit 31 is the most significant (Chapter 11). -/

namespace Sys2Proof

/-- One word of a link: every item, notice, order and report is a run of these. -/
abbrev Word := BitVec 32

/-- The 24 bits of an item's first word that stand below its kind code (Chapter 11, Stream items). -/
abbrev Low := BitVec 24

end Sys2Proof
end

