-- ==== Sys2Proof/Syntax.lean ====
section
/-! DEFINITION. The commands of the block: one constructor per row of spec/opcode_table.json, in the
table's order. A stream item that the part forwards carries its words (R3: a stream item leaves with
its words as they were taken); a consumed item or a notice carries its fields. An order carries its
tag and its field words; the length field of its header is the number of those words (R2, 9.1). -/

namespace Sys2Proof

/-- The levels of the HOLDER and TIP lines at an event (R86); `true` is the high level. They are read
only if a frame opens in that event, so they stand on the five commands in which one can. -/
structure Pins where
  holderHigh : Bool
  tipHigh    : Bool
  deriving DecidableEq, Repr

/-- One command to the block: an item presented at the stream port, a notice, a line event, an
internal step of an issuer, or a word passing at an output port. -/
inductive Instr where
  /-- FRAME START (R9, R14); `low` is forwarded. -/
  | frameStart (low : Low) (pins : Pins)
  /-- FRAME END (R10, R16); `low` is forwarded. -/
  | frameEnd (low : Low)
  /-- MOVE to `(x, y)` (R5). -/
  | move (x y : BitVec 12)
  /-- STROKE (R6): `low` holds the intensity, `point` the end point. -/
  | stroke (low : Low) (point : Word)
  /-- GLYPH RUN (R7): `low` holds size and count, `codes` the character codes, four a word. -/
  | glyphRun (low : Low) (codes : List Word)
  /-- One-word or long opaque item (R8): any kind R1 lists as opaque, its words as taken. -/
  | opaqueItem (kind : BitVec 8) (low : Low) (rest : List Word)
  /-- TAG OPEN (R23). -/
  | tagOpen (layer : BitVec 8) (entity : BitVec 16)
  /-- TAG CLOSE (R24). -/
  | tagClose
  /-- The list's FRAME END in hand is issued (R11). -/
  | frameEndIssue
  /-- The Decoder's own FRAME END of an unclosed frame is issued (R14). -/
  | generatedFrameEndIssue
  /-- The Overlay Generator issues its next item (R127). -/
  | overlayItemIssue
  /-- A completion notice (R18). -/
  | completionNotice (seq : BitVec 8) (pins : Pins)
  /-- A hit notice (R42, R43): `h` and `e`. -/
  | hitNotice (seq : BitVec 8) (elapsed : BitVec 13)
  /-- A notice whose kind is neither completion nor hit (R19). -/
  | unknownNotice (word : Word)
  /-- A rising edge of SYNC (R128, R129). -/
  | syncArrival
  /-- RESET goes low (R21). -/
  | resetLineAssert
  /-- RESET goes high (R21, R22). -/
  | resetLineRelease (pins : Pins)
  /-- The first word of a report passes on the return lane (R172). -/
  | reportStart (pins : Pins)
  /-- The last word of a report passes on the return lane (R173). -/
  | reportEnd
  /-- The in-band reset is performed (R168). -/
  | inBandResetPerformed (pins : Pins)
  /-- SET PARAMETER (R160). -/
  | setParameter (tag : BitVec 8) (fields : List Word)
  /-- SET MODES (R161). -/
  | setModes (tag : BitVec 8) (fields : List Word)
  /-- LAYER SET (R150). -/
  | layerSet (tag : BitVec 8) (fields : List Word)
  /-- BUTTON SET (R136). -/
  | buttonSet (tag : BitVec 8) (fields : List Word)
  /-- LOAD OPEN (R142). -/
  | loadOpen (tag : BitVec 8) (fields : List Word)
  /-- LOAD SEGMENT (R143). -/
  | loadSegment (tag : BitVec 8) (fields : List Word)
  /-- LOAD CLOSE (R146). -/
  | loadClose (tag : BitVec 8) (fields : List Word)
  /-- LOAD ABORT (R147). -/
  | loadAbort (tag : BitVec 8) (fields : List Word)
  /-- PLACE CROSS (R109). -/
  | placeCross (tag : BitVec 8) (fields : List Word)
  /-- SUSPEND DRAG (R116). -/
  | suspendDrag (tag : BitVec 8) (fields : List Word)
  /-- RESUME DRAG (R118). -/
  | resumeDrag (tag : BitVec 8) (fields : List Word)
  /-- CANCEL DRAG (R119). -/
  | cancelDrag (tag : BitVec 8) (fields : List Word)
  /-- CLEAR FAULT (R130). -/
  | clearFault (tag : BitVec 8) (fields : List Word)
  /-- MARK (R162). -/
  | mark (tag : BitVec 8) (fields : List Word)
  /-- STATUS (R163). -/
  | status (tag : BitVec 8) (fields : List Word)
  /-- DESCRIBE (R164). -/
  | describe (tag : BitVec 8) (fields : List Word)
  /-- RESET ENABLE (R165). -/
  | resetEnable (tag : BitVec 8) (fields : List Word)
  /-- RESET (R166). -/
  | reset (tag : BitVec 8) (fields : List Word)
  /-- An ORDER whose code is none of the eighteen (R159). -/
  | unknownOrder (code tag : BitVec 8) (fields : List Word)
  /-- The oldest word of the beam-port backlog passes to the deflection unit (R3). -/
  | beamPortWordSent
  deriving DecidableEq, Repr

/-- An ORDER item (R1, kind 0x10). -/
def Instr.isOrder : Instr → Bool
  | .setParameter _ _ | .setModes _ _ | .layerSet _ _ | .buttonSet _ _ | .loadOpen _ _
  | .loadSegment _ _ | .loadClose _ _ | .loadAbort _ _ | .placeCross _ _ | .suspendDrag _ _
  | .resumeDrag _ _ | .cancelDrag _ _ | .clearFault _ _ | .mark _ _ | .status _ _
  | .describe _ _ | .resetEnable _ _ | .reset _ _ | .unknownOrder _ _ _ => true
  | _ => false

/-- A drawing or opaque item of the stream: the items the Decoder forwards (R1, `issued`). -/
def Instr.isForwarded : Instr → Bool
  | .frameStart _ _ | .frameEnd _ | .move _ _ | .stroke _ _ | .glyphRun _ _
  | .opaqueItem _ _ _ => true
  | _ => false

/-- A TAG item (R1). -/
def Instr.isTag : Instr → Bool
  | .tagOpen _ _ | .tagClose => true
  | _ => false

/-- An item of the stream port (R1): forwarded, TAG or ORDER. -/
def Instr.isStreamItem (i : Instr) : Bool := i.isForwarded || i.isTag || i.isOrder

/-- A notice of the notice channel (1.5). -/
def Instr.isNotice : Instr → Bool
  | .completionNotice _ _ | .hitNotice _ _ | .unknownNotice _ => true
  | _ => false

end Sys2Proof
end

