-- ==== Sys2Proof/WellFormed.lean ====
section
/-! DEFINITION. Which terms of `Instr` are commands that can stand on the part's links: the word
count of an item is fixed by its own fields (R2), the opaque kinds are those of R1, an order's length
is 0..63 (9.1), the code of an unknown order is none of the eighteen (R159), and an unknown notice
has kind 0 or 3 (Chapter 11, Notices). -/

namespace Sys2Proof

/-- R2: the words after the first of a GLYPH RUN, `ceil(count / 4)`, the count taken as it stands. -/
def glyphWords (low : Low) : Nat := (low.toNat % 256 + 3) / 4

/-- R1: the kinds of one-word opaque items. -/
def oneWordOpaque (k : BitVec 8) : Bool :=
  k.toNat == 0 || (8 ≤ k.toNat && k.toNat ≤ 15) || 32 ≤ k.toNat

/-- R1: the kinds of long opaque items. -/
def longOpaque (k : BitVec 8) : Bool := 17 ≤ k.toNat && k.toNat ≤ 31

/-- R159: the order codes the part knows, 0x01..0x12. -/
def knownOrder (c : BitVec 8) : Bool := 1 ≤ c.toNat && c.toNat ≤ 18

/-- The command can stand on the link it arrives by. -/
def Instr.wellFormed : Instr → Bool
  | .glyphRun low codes => codes.length == glyphWords low
  | .opaqueItem k low rest =>
      (oneWordOpaque k && rest.length == 0) || (longOpaque k && rest.length == low.toNat % 32)
  | .unknownNotice w => w.toNat / 2 ^ 30 == 0 || w.toNat / 2 ^ 30 == 3
  | .unknownOrder c _ f => !knownOrder c && f.length ≤ 63
  | .setParameter _ f | .setModes _ f | .layerSet _ f | .buttonSet _ f | .loadOpen _ f
  | .loadSegment _ f | .loadClose _ f | .loadAbort _ f | .placeCross _ f | .suspendDrag _ f
  | .resumeDrag _ f | .cancelDrag _ f | .clearFault _ f | .mark _ f | .status _ f
  | .describe _ f | .resetEnable _ f | .reset _ f => f.length ≤ 63
  | _ => true

end Sys2Proof
end

