-- ==== Sys2Proof/Decode.lean ====
section
/-! DEFINITION. The words of the links and the commands they spell (R1, R2, Chapter 11): the bit-field
helpers, the decoder of the stream port, the decoder of the notice channel, and the words of an item.
The rows of spec/opcode_table.json give no bits, so `decodeTableWord` answers none for every word. -/

namespace Sys2Proof

/-- Chapter 11: "a field written hi..lo", as an unsigned number. -/
def bits {n : Nat} (w : BitVec n) (hi lo : Nat) : Nat := w.toNat / 2 ^ lo % 2 ^ (hi + 1 - lo)

/-- Chapter 11: one flag bit. -/
def flag {n : Nat} (w : BitVec n) (i : Nat) : Bool := bits w i i == 1

/-- A number written into the field hi..lo of an otherwise zero word. -/
def put (v hi lo : Nat) : Nat := v % 2 ^ (hi + 1 - lo) * 2 ^ lo

/-- A flag written into one bit of an otherwise zero word. -/
def putFlag (b : Bool) (i : Nat) : Nat := if b then 2 ^ i else 0

/-- The kind code of an item's first word, 31..24 (Chapter 11). -/
def kindOf (w : Word) : BitVec 8 := w.extractLsb' 24 8

/-- What stands below the kind code, 23..0. -/
def lowOf (w : Word) : Low := w.extractLsb' 0 24

/-- A first word from its kind code and the bits below it. -/
def firstWord (k : BitVec 8) (low : Low) : Word := k ++ low

/-- R2: how many words follow the first word of an item, from the fields as they stand. -/
def wordsAfter (w : Word) : Nat :=
  let k := (kindOf w).toNat
  if k = 0x04 then 1
  else if k = 0x05 then glyphWords (lowOf w)
  else if k = 0x10 then bits w 5 0
  else if 0x11 ≤ k ∧ k ≤ 0x1F then bits w 4 0
  else 0

/-- The order a code names (Chapter 11, Orders); any other code is an unknown order (R159). -/
def orderOf (code tag : BitVec 8) (f : List Word) : Instr :=
  match code.toNat with
  | 0x01 => .setParameter tag f
  | 0x02 => .setModes tag f
  | 0x03 => .layerSet tag f
  | 0x04 => .buttonSet tag f
  | 0x05 => .loadOpen tag f
  | 0x06 => .loadSegment tag f
  | 0x07 => .loadClose tag f
  | 0x08 => .loadAbort tag f
  | 0x09 => .placeCross tag f
  | 0x0A => .suspendDrag tag f
  | 0x0B => .resumeDrag tag f
  | 0x0C => .cancelDrag tag f
  | 0x0D => .clearFault tag f
  | 0x0E => .mark tag f
  | 0x0F => .status tag f
  | 0x10 => .describe tag f
  | 0x11 => .resetEnable tag f
  | 0x12 => .reset tag f
  | _ => .unknownOrder code tag f

/-- An order's code, tag and field words (Chapter 11). -/
def Instr.orderParts : Instr → Option (BitVec 8 × BitVec 8 × List Word)
  | .setParameter t f => some (0x01, t, f) | .setModes t f => some (0x02, t, f)
  | .layerSet t f => some (0x03, t, f) | .buttonSet t f => some (0x04, t, f)
  | .loadOpen t f => some (0x05, t, f) | .loadSegment t f => some (0x06, t, f)
  | .loadClose t f => some (0x07, t, f) | .loadAbort t f => some (0x08, t, f)
  | .placeCross t f => some (0x09, t, f) | .suspendDrag t f => some (0x0A, t, f)
  | .resumeDrag t f => some (0x0B, t, f) | .cancelDrag t f => some (0x0C, t, f)
  | .clearFault t f => some (0x0D, t, f) | .mark t f => some (0x0E, t, f)
  | .status t f => some (0x0F, t, f) | .describe t f => some (0x10, t, f)
  | .resetEnable t f => some (0x11, t, f) | .reset t f => some (0x12, t, f)
  | .unknownOrder c t f => some (c, t, f)
  | _ => none

/-- R1: the item that a first word and the words after it spell. -/
def itemOf (pins : Pins) (w : Word) (more : List Word) : Instr :=
  match (kindOf w).toNat with
  | 0x01 => .frameStart (lowOf w) pins
  | 0x02 => .frameEnd (lowOf w)
  | 0x03 => .move (w.extractLsb' 12 12) (w.extractLsb' 0 12)
  | 0x04 => .stroke (lowOf w) (more.headD 0)
  | 0x05 => .glyphRun (lowOf w) more
  | 0x06 => .tagOpen (w.extractLsb' 16 8) (w.extractLsb' 0 16)
  | 0x07 => .tagClose
  | 0x10 => orderOf (w.extractLsb' 16 8) (w.extractLsb' 8 8) more
  | _ => .opaqueItem (kindOf w) (lowOf w) more

/-- R1, R2: the item at the head of the stream port, and the words behind it; none while the words
of the item have not all been presented. `pins` are the pen lines at the item's arrival. -/
def decodeItem (pins : Pins) : List Word → Option (Instr × List Word)
  | [] => none
  | w :: ws =>
      if ws.length < wordsAfter w then none
      else some (itemOf pins w (ws.take (wordsAfter w)), ws.drop (wordsAfter w))

/-- The notice a word of the notice channel is (Chapter 11, Notices). -/
def decodeNotice (pins : Pins) (w : Word) : Instr :=
  match bits w 31 30 with
  | 1 => .completionNotice (w.extractLsb' 0 8) pins
  | 2 => .hitNotice (w.extractLsb' 16 8) (w.extractLsb' 0 13)
  | _ => .unknownNotice w

/-- The header word of an order: kind 0x10, code, tag, length (Chapter 11). -/
def orderHeader (code tag : BitVec 8) (n : Nat) : Word :=
  BitVec.ofNat 32 (put 0x10 31 24 + put code.toNat 23 16 + put tag.toNat 15 8 + put n 5 0)

/-- The words of a stream item, with every bit no table assigns 0 where the item does not carry it. -/
def encodeItem : Instr → List Word
  | .frameStart low _ => [firstWord 0x01 low]
  | .frameEnd low => [firstWord 0x02 low]
  | .move x y => [firstWord 0x03 (x ++ y)]
  | .stroke low p => [firstWord 0x04 low, p]
  | .glyphRun low codes => firstWord 0x05 low :: codes
  | .opaqueItem k low rest => firstWord k low :: rest
  | .tagOpen layer entity => [firstWord 0x06 (layer ++ entity)]
  | .tagClose => [firstWord 0x07 0]
  | .setParameter t f => orderHeader 0x01 t f.length :: f
  | .setModes t f => orderHeader 0x02 t f.length :: f
  | .layerSet t f => orderHeader 0x03 t f.length :: f
  | .buttonSet t f => orderHeader 0x04 t f.length :: f
  | .loadOpen t f => orderHeader 0x05 t f.length :: f
  | .loadSegment t f => orderHeader 0x06 t f.length :: f
  | .loadClose t f => orderHeader 0x07 t f.length :: f
  | .loadAbort t f => orderHeader 0x08 t f.length :: f
  | .placeCross t f => orderHeader 0x09 t f.length :: f
  | .suspendDrag t f => orderHeader 0x0A t f.length :: f
  | .resumeDrag t f => orderHeader 0x0B t f.length :: f
  | .cancelDrag t f => orderHeader 0x0C t f.length :: f
  | .clearFault t f => orderHeader 0x0D t f.length :: f
  | .mark t f => orderHeader 0x0E t f.length :: f
  | .status t f => orderHeader 0x0F t f.length :: f
  | .describe t f => orderHeader 0x10 t f.length :: f
  | .resetEnable t f => orderHeader 0x11 t f.length :: f
  | .reset t f => orderHeader 0x12 t f.length :: f
  | .unknownOrder c t f => orderHeader c t f.length :: f
  | _ => []

/-- The pen-line levels a command carries; where it carries none, any (here: both high). -/
def Instr.pins : Instr → Pins
  | .frameStart _ p | .completionNotice _ p | .resetLineRelease p | .reportStart p
  | .inBandResetPerformed p => p
  | _ => ⟨true, true⟩

/-- The command a word spells by the TABLE's bits. No row of spec/opcode_table.json gives bits, so
no word spells one (log entry 12); the words of the links are read by `decodeItem` and
`decodeNotice`. -/
def decodeTableWord (_nbits _w : Nat) : Option Instr := none

end Sys2Proof
end

