-- ==== Sys2Proof/Config.lean ====
section
/-! DEFINITION. What the part fixes: its capacities (R164), its limits, and the two free values the
manual leaves to the implementation: how the reports that different blocks queue at one event
interleave, and what a point word carries of a y coordinate that its field cannot hold. -/

namespace Sys2Proof.Config

/-- R164: entries of a layer table bank. -/
def layers : Nat := 64
/-- R164: button places of a menu table bank. -/
def buttons : Nat := 24
/-- R34, R164: entries the Trail holds. -/
def trail : Nat := 48
/-- R65, R164: records the Hit Set holds. -/
def hitSet : Nat := 16
/-- R170, R164: reports the Return Lane's queue holds. -/
def queue : Nat := 32
/-- R17, R164: the outstanding window. -/
def window : Nat := 16
/-- R23: entity records the Tag Stack holds. -/
def tagDepth : Nat := 8
/-- R42, R62: the value at which the frame's 16-bit counters stay. -/
def counterTop : Nat := 65535

/-- FREE VALUE (log entry 1). At one frame open or close the Pick Resolver, the Pen Monitor and the
Tracking Unit each queue their reports in an order of their own, but the place of one block's
reports among another's "is not fixed" (R83, R99). Where two or more blocks have a report left at
one event, `reportOrder n` picks the block whose next report is queued, `n` being a fresh index for
every choice. It has no body, so nothing can be proved about which block comes first. -/
opaque reportOrder : Nat → Nat

/-- FREE VALUE (log entry 16). A glyph cell centre's y, `y0 + 6·size` (R33), may pass 4095, while a point
word's y field is 11..0 (Chapter 11, Reports); the manual widens the x field for such centres and
says nothing of y. `tallPointY x y` is what the y field carries for a point with `y` above 4095. It
has no body, so nothing can be proved about it. -/
opaque tallPointY : Nat → Nat → BitVec 12

end Sys2Proof.Config
end

