-- ==== Sys2Proof/Machine/State.lean ====
section
/-! DEFINITION. The state of the part, block by block (00_scope, Block diagram), as plain data, and its
value after reset. Values the manual bounds are held as numbers; bits are held only where the part
keeps words (the beam-port backlog, items waiting at a port, order tags and label codes). -/

namespace Sys2Proof.Machine

/-! ## Geometry -/

/-- A point; a glyph cell centre may have x past 4095 (R33). -/
structure Point where
  x : Nat
  y : Nat
  deriving DecidableEq, Repr

/-- A displacement, -4095..4095 on each axis (R108). -/
structure Disp where
  dx : Int
  dy : Int
  deriving DecidableEq, Repr

/-! ## Stream Decoder (Chapter 1) -/

/-- The Decoder's phase (section 1.4). -/
inductive Phase where
  | idle | drawing | overlay | closing | unclosing
  deriving DecidableEq, Repr

/-- The item in hand: a FRAME END or FRAME START taken and not yet issued, with the bits of its word
below the kind, since it is issued with its words as taken (R3). -/
inductive HandItem where
  | frameEnd (low : Low)
  | frameStart (low : Low)
  deriving DecidableEq, Repr

/-- The Stream Decoder's state. The frame-open flag and the stall causes are functions of the state
(`State.frameOpen`, `stallCauses`). -/
structure Decoder where
  phase     : Phase
  frame     : Nat
  beam      : Point
  inHand    : Option HandItem
  linkFault : Bool
  backlog   : List Word
  deriving DecidableEq, Repr

/-! ## Tag Stack and Trail (Chapter 2) -/

/-- An entity record (2.1). -/
structure TagRecord where
  entity : Nat
  layer  : Nat
  deriving DecidableEq, Repr

/-- The Tag Stack: records outermost first, and the overflow depth. -/
structure TagStack where
  records  : List TagRecord
  overflow : Nat
  deriving DecidableEq, Repr

/-- The kind of a trail entry (2.2). -/
inductive Kind where
  | frameStart | frameEnd | move | stroke | glyphRun | opaqueItem
  deriving DecidableEq, Repr

/-- The arms of the cross, in the order of emission (R102). -/
inductive Arm where
  | e | n | w | s
  deriving DecidableEq, Repr

/-- The origin of a trail entry with the fields present for that origin (2.2, R30). -/
inductive Origin where
  | list (path : List Nat) (layer : Option Nat)
  | cross (arm : Arm)
  | menu (index code : Nat) (enabled : Bool)
  deriving DecidableEq, Repr

/-- Size and count of a lit glyph run (2.2). -/
structure Glyph where
  size  : Nat
  count : Nat
  deriving DecidableEq, Repr

/-- A trail entry (2.2). `frame = none` marks an unframed entry. -/
structure Entry where
  seq       : Nat
  kind      : Kind
  origin    : Origin
  start     : Point
  stop      : Point
  length    : Nat
  lit       : Bool
  glyph     : Option Glyph
  frame     : Option Nat
  completed : Bool
  deriving DecidableEq, Repr

/-- The Trail: entries oldest first, the next sequence number and the outstanding count. -/
structure Trail where
  entries     : List Entry
  nextSeq     : Nat
  outstanding : Nat
  deriving DecidableEq, Repr

/-! ## Hit Correlator (Chapter 3) -/

/-- The twelve frame counters, each 0..65535 and saturating. -/
structure Counters where
  notices   : Nat
  sightings : Nat
  list      : Nat
  cross     : Nat
  menu      : Nat
  snapped   : Nat
  dark      : Nat
  stale     : Nat
  ignored   : Nat
  merged    : Nat
  displaced : Nat
  tagFaults : Nat
  deriving DecidableEq, Repr

/-- Least and greatest coordinate of a cross accumulator. -/
structure Span where
  least    : Nat
  greatest : Nat
  deriving DecidableEq, Repr

/-- A cross accumulator: its span is absent while its count is 0. -/
structure Accumulator where
  count : Nat
  span  : Option Span
  deriving DecidableEq, Repr

/-- One value for each arm of the cross. -/
structure PerArm (α : Type) where
  e : α
  n : α
  w : α
  s : α
  deriving DecidableEq, Repr

/-- The Hit Correlator's state for the open frame. -/
structure Correlator where
  counters      : Counters
  arms          : PerArm Accumulator
  menu          : Vector Nat 24
  firstSighting : Option Point
  arrivals      : Nat
  deriving DecidableEq, Repr

/-! ## Hit Set and Pick Resolver (Chapter 4) -/

/-- A hit record (R65). -/
structure HitRecord where
  seq     : Nat
  path    : List Nat
  layer   : Nat
  point   : Point
  snapped : Bool
  hits    : Nat
  arrival : Nat
  deriving DecidableEq, Repr

/-- The press window (4.3): CLOSED, or OPEN with index k and length W. -/
inductive PressWindow where
  | closed
  | opened (k w : Nat)
  deriving DecidableEq, Repr

/-- The Pick Resolver's state. -/
structure Resolver where
  press       : PressWindow
  lastHover   : List Nat
  dragRequest : Bool
  deriving DecidableEq, Repr

/-! ## Pen Monitor (Chapter 5) -/

/-- Level of the HOLDER line. -/
inductive Holder where
  | inside | outside
  deriving DecidableEq, Repr

/-- Level of the TIP line. -/
inductive Tip where
  | down | up
  deriving DecidableEq, Repr

/-- The pen states. -/
inductive PenState where
  | stowed | lifted | seen | tracking
  deriving DecidableEq, Repr

/-- The Pen Monitor's state: raw samples, debounced levels, pen state and counts. -/
structure Pen where
  rawHolder : Holder
  rawTip    : Tip
  holder    : Holder
  tip       : Tip
  state     : PenState
  seen      : Nat
  loss      : Nat
  deriving DecidableEq, Repr

/-! ## Tracking Unit (Chapter 6) -/

/-- The drag record while a drag is active (R111). While none is active the record is absent: its
flags are clear, its origin absent and its resume frame 0. -/
structure Drag where
  origin         : Point
  suspended      : Bool
  releasePending : Bool
  resumeFrame    : Nat
  deriving DecidableEq, Repr

/-- The Tracking Unit's state. -/
structure Tracking where
  centre    : Point
  placement : Option Point
  drag      : Option Drag
  deriving DecidableEq, Repr

/-! ## Tables (Chapters 7 and 8) -/

/-- A layer table entry (R139). -/
structure LayerEntry where
  pickable  : Bool
  draggable : Bool
  priority  : Nat
  deriving DecidableEq, Repr

/-- The kinds of light button (R122). -/
inductive ButtonKind where
  | momentary | toggle | radio
  deriving DecidableEq, Repr

/-- A button of the menu table (R122). -/
structure Button where
  code    : Nat
  kind    : ButtonKind
  group   : Nat
  enabled : Bool
  latched : Bool
  x       : Nat
  y       : Nat
  w       : Nat
  h       : Nat
  label   : List (BitVec 8)
  deriving DecidableEq, Repr

/-- The menu band (R121). -/
structure Band where
  x : Nat
  y : Nat
  w : Nat
  h : Nat
  deriving DecidableEq, Repr

/-- A bank of the layer table: one entry for each layer 0..63. -/
abbrev LayerTable := Vector LayerEntry 64

/-- The 24 button places of a menu table; `none` is an absent place. -/
abbrev Places := Vector (Option Button) 24

/-- A bank of the menu table (R121). -/
structure MenuTable where
  band   : Option Band
  places : Places
  deriving DecidableEq, Repr

/-- The twelve parameters (R160). -/
inductive ParamName where
  | lag | settle | dwell | glyphStep | snap | radius | arm | gap | stepLimit | lossFrames
  | seenFrames | pressWindow
  deriving DecidableEq, Repr

/-- One value for each parameter. -/
structure PerParam (α : Type) where
  lag         : α
  settle      : α
  dwell       : α
  glyphStep   : α
  snap        : α
  radius      : α
  arm         : α
  gap         : α
  stepLimit   : α
  lossFrames  : α
  seenFrames  : α
  pressWindow : α
  deriving DecidableEq, Repr

/-- One value for each mode (R161). -/
structure PerMode (α : Type) where
  overlay     : α
  hover       : α
  summary     : α
  pickOnPress : α
  deriving DecidableEq, Repr

/-- The Table Banks' state (Chapter 8). -/
structure Banks where
  layersLive    : LayerTable
  layersShadow  : LayerTable
  menuLive      : MenuTable
  menuShadow    : MenuTable
  pendingLayers : Vector (Option LayerEntry) 64
  pendingParams : PerParam (Option Nat)
  pendingModes  : PerMode (Option Bool)
  params        : PerParam Nat
  modes         : PerMode Bool
  deriving DecidableEq, Repr

/-- A load session record (R141). Entry count, checksum and entry map have meaning in OPEN only and
are held there only. -/
inductive Session where
  | none
  | opened (count checksum : Nat) (map : List Nat)
  | swapPending
  deriving DecidableEq, Repr

/-- The Load Controller's state. -/
structure Loads where
  layers : Session
  menu   : Session
  deriving DecidableEq, Repr

/-! ## Overlay Generator (Chapter 7) -/

/-- The emission state, and with it the button in emission: IDLE; in the cross, whose next item is
`next`; or in a button, with its index, the copy that was read and the number of its next item. -/
inductive Emission where
  | idle
  | cross (next : Nat)
  | button (index : Nat) (copy : Button) (next : Nat)
  deriving DecidableEq, Repr

/-- The Overlay Generator's state. -/
structure Overlay where
  enable      : Bool
  permission  : Bool
  emission    : Emission
  faultActive : Bool
  serial      : Nat
  deriving DecidableEq, Repr

/-! ## Order Unit (Chapter 9) -/

/-- The Order Unit's state: the reset-armed flag, and the tag of the armed RESET in hand. -/
structure OrderUnit where
  armed  : Bool
  inHand : Option (BitVec 8)
  deriving DecidableEq, Repr

/-- The refusal reasons (R158), in the order of their codes. -/
inductive Reason where
  | unknownOrder | badField | range | sessionOpen | noSession | incomplete | checksum | conflict
  | faultActive | staleSerial | notArmed | penStowed | dragActive
  deriving DecidableEq, Repr

/-- The reply statuses (R158). -/
inductive Status where
  | accepted
  | adjusted
  | refused (reason : Reason)
  | wait
  | ignored
  | collided
  deriving DecidableEq, Repr

/-- A session state as STATUS reports it (R163). -/
inductive SessionState where
  | none | opened | swapPending
  deriving DecidableEq, Repr

/-- The payload of a STATUS reply (R163). -/
structure StatusData where
  penState       : PenState
  holder         : Holder
  tip            : Tip
  dragActive     : Bool
  suspended      : Bool
  releasePending : Bool
  overlayEnable  : Bool
  faultActive    : Bool
  serial         : Nat
  layerSession   : SessionState
  menuSession    : SessionState
  occupancy      : Nat
  frame          : Nat
  frameOpen      : Bool
  outstanding    : Nat
  armed          : Bool
  deriving DecidableEq, Repr

/-- The payload of a REPLY (R157). -/
inductive Payload where
  | absent
  | param (name : ParamName) (value : Nat)
  | mark (value : Nat)
  | status (d : StatusData)
  | describe
  deriving DecidableEq, Repr

/-! ## Return Lane (Chapter 10) -/

/-- The outcome of a PICK report that picked (R79). -/
structure PickData where
  point         : Point
  layer         : Nat
  path          : List Nat
  hits          : Nat
  snapped       : Bool
  dragRequested : Bool
  deriving DecidableEq, Repr

/-- Outcomes of a DRAG END (R115). -/
inductive DragOutcome where
  | released | lost | stowed | cancelled
  deriving DecidableEq, Repr

/-- Causes of a TRACK ACQUIRED (R97). -/
inductive AcquireCause where
  | sighted | placed
  deriving DecidableEq, Repr

/-- Kinds of PEN EVENT (R99). -/
inductive PenEventKind where
  | stowed | lifted | tipInHolder
  deriving DecidableEq, Repr

/-- Causes of a LINK fault (R19); NOT OUTSTANDING carries the sequence number the notice named. -/
inductive LinkCause where
  | notOutstanding (seq : Nat)
  | unknownNotice
  deriving DecidableEq, Repr

/-- The reports of the return lane (10.1). -/
inductive Report where
  | reply (tag code : BitVec 8) (frame : Nat) (frameOpen : Bool) (status : Status)
      (payload : Payload)
  /-- `none` is the outcome MISS. -/
  | pick (frame : Nat) (picked : Option PickData)
  | menu (frame index code : Nat) (latched : Bool)
  | hover (frame : Nat) (path : List Nat)
  | dragStart (frame : Nat) (origin : Point)
  | dragEnd (frame : Nat) (outcome : DragOutcome) (centre : Point) (disp : Disp)
  | trackAcquired (frame : Nat) (cause : AcquireCause) (centre : Point)
  | trackLost (frame : Nat) (centre : Point)
  | penEvent (frame : Nat) (kind : PenEventKind) (holder : Holder) (tip : Tip) (state : PenState)
  | faultOverlay (frame serial dropped : Nat)
  | faultLink (frame : Nat) (cause : LinkCause)
  | faultUnclosed (frame : Nat)
  | frameSummary (frame : Nat) (unclosed : Bool) (counters : Counters)
  | overflow (frame lost : Nat)
  | trackPosition (frame : Nat) (centre : Point) (coalesced : Nat)
  | dragMove (frame : Nat) (centre : Point) (disp : Disp) (coalesced : Nat)
  deriving DecidableEq, Repr

/-- A full TRACK POSITION slot (R171). -/
structure TrackSlot where
  frame     : Nat
  centre    : Point
  coalesced : Nat
  deriving DecidableEq, Repr

/-- A full DRAG MOVE slot (R171). -/
structure DragSlot where
  frame     : Nat
  centre    : Point
  disp      : Disp
  coalesced : Nat
  deriving DecidableEq, Repr

/-- The lane state (10). -/
inductive LaneState where
  | idle
  | sending (report : Report)
  deriving DecidableEq, Repr

/-- The Return Lane's state; the owed slots are two flags. -/
structure ReturnLane where
  queue     : List Report
  trackSlot : Option TrackSlot
  dragSlot  : Option DragSlot
  lost      : Nat
  lane      : LaneState
  owedTrack : Bool
  owedDrag  : Bool
  deriving DecidableEq, Repr

/-! ## The whole part -/

/-- The state of the part: its thirteen blocks; the pen lines and the reset line as last seen; what
waits at its ports; and the queue of commands not yet given to it. -/
structure State where
  decoder     : Decoder
  tags        : TagStack
  trail       : Trail
  corr        : Correlator
  hitSet      : List HitRecord
  resolver    : Resolver
  pen         : Pen
  tracking    : Tracking
  overlay     : Overlay
  banks       : Banks
  loads       : Loads
  orders      : OrderUnit
  lane        : ReturnLane
  /-- The HOLDER and TIP lines at the last event that gave them. -/
  pins        : Pins
  /-- The reset line is low (R21). -/
  resetLow    : Bool
  /-- Items held at the stream port, the head of the port first (R20). -/
  portLine    : List Instr
  /-- Items and notices that arrived while the reset line was low, in order of arrival (R21). -/
  lowArrivals : List Instr
  /-- MODEL's own: the index of the next free choice (`Config.reportOrder`). -/
  freeIndex   : Nat
  /-- MODEL's own: commands waiting, first in, first out. -/
  pending     : List Instr
  deriving DecidableEq, Repr

/-- Why the machine stops. No rule of the manual stops the part: inconsistencies on its links are
tolerated and reported (00_scope, Conventions), so there is no reason and no step faults. -/
inductive Fault where
  deriving DecidableEq, Repr

/-- Why a command has no meaning. -/
inductive Refusal where
  /-- Raised by an arm of `exec` for a command not modelled yet; no arm raises it. Safe. -/
  | notModelled (mnemonic : String)
  /-- Raised for a term of `Instr` that no words of a link spell (`Instr.wellFormed`): such a command
  cannot be given to the part. Safe: nothing is claimed of it. -/
  | illFormed
  deriving DecidableEq, Repr

/-! ## Values after reset -/

/-- R22. -/
def Decoder.afterReset : Decoder :=
  { phase := .idle, frame := 0, beam := ⟨0, 0⟩, inHand := none, linkFault := false, backlog := [] }

/-- R28. -/
def TagStack.afterReset : TagStack := { records := [], overflow := 0 }

/-- R41. -/
def Trail.afterReset : Trail := { entries := [], nextSeq := 0, outstanding := 0 }

/-- The cleared frame counters (R63, R64). -/
def Counters.zero : Counters :=
  { notices := 0, sightings := 0, list := 0, cross := 0, menu := 0, snapped := 0, dark := 0,
    stale := 0, ignored := 0, merged := 0, displaced := 0, tagFaults := 0 }

/-- A cleared cross accumulator (R63). -/
def Accumulator.zero : Accumulator := { count := 0, span := none }

/-- R63, R64: the Hit Correlator's cleared frame state. -/
def Correlator.cleared : Correlator :=
  { counters := .zero, arms := ⟨.zero, .zero, .zero, .zero⟩, menu := Vector.replicate 24 0,
    firstSighting := none, arrivals := 0 }

/-- R85. -/
def Resolver.afterReset : Resolver := { press := .closed, lastHover := [], dragRequest := false }

/-- R101. -/
def Pen.afterReset : Pen :=
  { rawHolder := .inside, rawTip := .up, holder := .inside, tip := .up, state := .stowed,
    seen := 0, loss := 0 }

/-- R120. -/
def Tracking.afterReset : Tracking := { centre := ⟨2048, 2048⟩, placement := none, drag := none }

/-- R139: the default layer entry. -/
def LayerEntry.default : LayerEntry := { pickable := false, draggable := false, priority := 0 }

/-- R154: every entry of a layer bank the default. -/
def LayerTable.cleared : LayerTable := Vector.replicate 64 .default

/-- R154: a menu bank with no band and every place absent. -/
def MenuTable.cleared : MenuTable := { band := none, places := Vector.replicate 24 none }

/-- The same value for every parameter. -/
def PerParam.all {α : Type} (a : α) : PerParam α := ⟨a, a, a, a, a, a, a, a, a, a, a, a⟩

/-- The same value for every mode. -/
def PerMode.all {α : Type} (a : α) : PerMode α := ⟨a, a, a, a⟩

/-- R154, R160: the default parameters. -/
def PerParam.defaults : PerParam Nat :=
  { lag := 24, settle := 6, dwell := 4, glyphStep := 18, snap := 3, radius := 40, arm := 12,
    gap := 3, stepLimit := 16, lossFrames := 4, seenFrames := 2, pressWindow := 3 }

/-- R154, R161: the default modes. -/
def PerMode.defaults : PerMode Bool :=
  { overlay := true, hover := false, summary := false, pickOnPress := true }

/-- R154. -/
def Banks.afterReset : Banks :=
  { layersLive := .cleared, layersShadow := .cleared, menuLive := .cleared, menuShadow := .cleared,
    pendingLayers := Vector.replicate 64 none, pendingParams := .all none,
    pendingModes := .all none, params := .defaults, modes := .defaults }

/-- R155. -/
def Loads.afterReset : Loads := { layers := .none, menu := .none }

/-- R133. -/
def Overlay.afterReset : Overlay :=
  { enable := true, permission := false, emission := .idle, faultActive := false, serial := 0 }

/-- R169. -/
def OrderUnit.afterReset : OrderUnit := { armed := false, inHand := none }

/-- R176, after the reset line. -/
def ReturnLane.afterReset : ReturnLane :=
  { queue := [], trackSlot := none, dragSlot := none, lost := 0, lane := .idle,
    owedTrack := false, owedDrag := false }

/-- The part right after reset: the reset line is high, every block holds its value after reset, and
nothing waits at a port. The pen lines are at the levels the Pen Monitor's raw samples stand for
(log entry 3); every event that reads them brings its own. -/
def State.reset : State :=
  { decoder := .afterReset, tags := .afterReset, trail := .afterReset, corr := .cleared,
    hitSet := [], resolver := .afterReset, pen := .afterReset, tracking := .afterReset,
    overlay := .afterReset, banks := .afterReset, loads := .afterReset, orders := .afterReset,
    lane := .afterReset, pins := { holderHigh := false, tipHigh := true }, resetLow := false,
    portLine := [], lowArrivals := [], freeIndex := 0, pending := [] }

/-! ## Named updates: one per field -/

/-- Replace `decoder`. -/
def State.setDecoder (s : State) (v : Decoder) : State := { s with decoder := v }

/-- Replace `tags`. -/
def State.setTags (s : State) (v : TagStack) : State := { s with tags := v }

/-- Replace `trail`. -/
def State.setTrail (s : State) (v : Trail) : State := { s with trail := v }

/-- Replace `corr`. -/
def State.setCorr (s : State) (v : Correlator) : State := { s with corr := v }

/-- Replace `hitSet`. -/
def State.setHitSet (s : State) (v : List HitRecord) : State := { s with hitSet := v }

/-- Replace `resolver`. -/
def State.setResolver (s : State) (v : Resolver) : State := { s with resolver := v }

/-- Replace `pen`. -/
def State.setPen (s : State) (v : Pen) : State := { s with pen := v }

/-- Replace `tracking`. -/
def State.setTracking (s : State) (v : Tracking) : State := { s with tracking := v }

/-- Replace `overlay`. -/
def State.setOverlay (s : State) (v : Overlay) : State := { s with overlay := v }

/-- Replace `banks`. -/
def State.setBanks (s : State) (v : Banks) : State := { s with banks := v }

/-- Replace `loads`. -/
def State.setLoads (s : State) (v : Loads) : State := { s with loads := v }

/-- Replace `orders`. -/
def State.setOrders (s : State) (v : OrderUnit) : State := { s with orders := v }

/-- Replace `lane`. -/
def State.setLane (s : State) (v : ReturnLane) : State := { s with lane := v }

/-- Replace `pins`. -/
def State.setPins (s : State) (v : Pins) : State := { s with pins := v }

/-- Replace `resetLow`. -/
def State.setResetLow (s : State) (v : Bool) : State := { s with resetLow := v }

/-- Replace `portLine`. -/
def State.setPortLine (s : State) (v : List Instr) : State := { s with portLine := v }

/-- Replace `lowArrivals`. -/
def State.setLowArrivals (s : State) (v : List Instr) : State := { s with lowArrivals := v }

/-- Replace `freeIndex`. -/
def State.setFreeIndex (s : State) (v : Nat) : State := { s with freeIndex := v }

/-- Replace `pending`. -/
def State.setPending (s : State) (v : List Instr) : State := { s with pending := v }

end Sys2Proof.Machine
end

