-- ==== Sys2Proof/Machine/Flags.lean ====
section
/-! DEFINITION. Flags and counters: the functions of the state the manual names as flags, and the
saturating counters of a frame (R42, R62, 00_scope Conventions). -/

namespace Sys2Proof.Machine

/-- A 16-bit counter raised by one; it stays at its upper bound. -/
def bump (n : Nat) : Nat := min (n + 1) Config.counterTop

/-- A 16-bit counter raised by `k`; nothing counted leaves it as it is. -/
def bumpBy (k n : Nat) : Nat := if k = 0 then n else min (n + k) Config.counterTop

/-- An 8-bit counter raised by one: hit counts (R66) and coalesced counts (R171). -/
def bump8 (n : Nat) : Nat := min (n + 1) 255

/-- The frame-open flag, set in every phase other than IDLE (1.4). -/
def State.frameOpen (s : State) : Bool := s.decoder.phase != .idle

/-- The frame field of an entry issued now (R3, R29). -/
def State.frameMark (s : State) : Option Nat :=
  if s.frameOpen then some s.decoder.frame else none

/-- R106: the frame has a sighting. -/
def Correlator.hasSighting (c : Correlator) : Bool := c.firstSighting.isSome

/-- R93, R106: the frame has cross hits. -/
def Correlator.hasCross (c : Correlator) : Bool :=
  0 < c.arms.e.count || 0 < c.arms.n.count || 0 < c.arms.w.count || 0 < c.arms.s.count

/-- The frame's counters changed by `f`. -/
def countWith (f : Counters → Counters) (s : State) : State :=
  s.setCorr { s.corr with counters := f s.corr.counters }

/-- R25: tag faults counted into the frame's tag-fault counter. -/
def tagFaults (k : Nat) (s : State) : State :=
  countWith (fun c => { c with tagFaults := bumpBy k c.tagFaults }) s

/-- R130, R133: the serial a new overlay fault takes. -/
def nextSerial (n : Nat) : Nat := if n = 255 then 1 else n + 1

/-- R9: the frame number after `n`. -/
def nextFrame (n : Nat) : Nat := if n = 65535 then 1 else n + 1

/-- The emission state is EMITTING. -/
def Emission.emitting : Emission → Bool
  | .idle => false
  | _ => true

/-- R111: a drag is active and suspended. -/
def Tracking.suspended (t : Tracking) : Bool :=
  match t.drag with
  | some d => d.suspended
  | none => false

/-- R111: the release-pending flag. -/
def Tracking.releasePending (t : Tracking) : Bool :=
  match t.drag with
  | some d => d.releasePending
  | none => false

/-- A session's state as STATUS reports it. -/
def Session.state : Session → SessionState
  | .none => .none
  | .opened _ _ _ => .opened
  | .swapPending => .swapPending

end Sys2Proof.Machine
end

