-- ==== Sys2Proof/Machine/Operands.lean ====
section
/-! DEFINITION. Operands: what the fields of items, orders and table entries mean (Chapter 11), the
codes of enumerated fields, the lines of the pen, and the geometry every block measures with
(00_scope, Conventions). -/

namespace Sys2Proof.Machine

/-! ## Geometry -/

/-- The absolute difference of two coordinates. -/
def absDiff (a b : Nat) : Nat := (a - b) + (b - a)

/-- Chebyshev distance: the larger of the absolute differences (00_scope, Steps and distance). -/
def chebyshev (p q : Point) : Nat := max (absDiff p.x q.x) (absDiff p.y q.y)

/-- `p` minus `q` on each axis. -/
def displacement (p q : Point) : Disp := ⟨(p.x : Int) - q.x, (p.y : Int) - q.y⟩

/-- R103: the lower bound of the centre for an ARM and GAP. -/
def boundLow (p : PerParam Nat) : Nat := p.gap + p.arm

/-- R103: the upper bound of the centre. -/
def boundHigh (p : PerParam Nat) : Nat := 4095 - p.gap - p.arm

/-- R103: clamp one coordinate, given exactly (it may lie below 0 before the clamp). -/
def clampCoord (p : PerParam Nat) (v : Int) : Nat :=
  if v < boundLow p then boundLow p else if (boundHigh p : Int) < v then boundHigh p else v.toNat

/-- R103: clamp a point to the bounds of the ARM and GAP in force. -/
def clampPoint (p : PerParam Nat) (c : Point) : Point := ⟨clampCoord p c.x, clampCoord p c.y⟩

/-- R59: a point inside a band, both edges included. -/
def Band.contains (b : Band) (p : Point) : Bool :=
  b.x ≤ p.x && p.x ≤ b.x + b.w && b.y ≤ p.y && p.y ≤ b.y + b.h

/-! ## Pen lines (R86) -/

/-- HOLDER reads IN at its low level. -/
def holderLevel (p : Pins) : Holder := if p.holderHigh then .outside else .inside

/-- TIP reads DOWN at its low level. -/
def tipLevel (p : Pins) : Tip := if p.tipHigh then .up else .down

/-! ## Stream items -/

/-- An end point in 27..16 and 11..0 of a word (STROKE word 1, PLACE CROSS, a band's origin). -/
def pointOf (w : Word) : Point := ⟨bits w 27 16, bits w 11 0⟩

/-- STROKE's intensity, 2..0. -/
def intensityOf (low : Low) : Nat := bits low 2 0

/-- GLYPH RUN's size, 10..8. -/
def glyphSize (low : Low) : Nat := bits low 10 8

/-- GLYPH RUN's count, 7..0. -/
def glyphCount (low : Low) : Nat := bits low 7 0

/-! ## Orders: field words -/

/-- The n-th field word of an order, counting the first as 0. -/
def fieldWord (f : List Word) (n : Nat) : Word := f.getD n 0

/-- The tables of the part. -/
inductive Table where
  | layers | menu
  deriving DecidableEq, Repr

/-- Table codes, 31..24 of a load order's first field word: 1 LAYERS, 2 MENU, no other. -/
def tableOf (w : Word) : Option Table :=
  match bits w 31 24 with
  | 1 => some .layers
  | 2 => some .menu
  | _ => none

/-- Parameter names by code, 1..12 (Chapter 11). -/
def paramOf (code : Nat) : Option ParamName :=
  match code with
  | 1 => some .lag
  | 2 => some .settle
  | 3 => some .dwell
  | 4 => some .glyphStep
  | 5 => some .snap
  | 6 => some .radius
  | 7 => some .arm
  | 8 => some .gap
  | 9 => some .stepLimit
  | 10 => some .lossFrames
  | 11 => some .seenFrames
  | 12 => some .pressWindow
  | _ => none

/-- The code of a parameter name. -/
def paramCode : ParamName → Nat
  | .lag => 1 | .settle => 2 | .dwell => 3 | .glyphStep => 4 | .snap => 5 | .radius => 6
  | .arm => 7 | .gap => 8 | .stepLimit => 9 | .lossFrames => 10 | .seenFrames => 11
  | .pressWindow => 12

/-- R160: the least value of a parameter. -/
def paramLow : ParamName → Nat
  | .lag => 0 | .settle => 0 | .dwell => 1 | .glyphStep => 8 | .snap => 0 | .radius => 0
  | .arm => 4 | .gap => 2 | .stepLimit => 1 | .lossFrames => 1 | .seenFrames => 1
  | .pressWindow => 1

/-- R160: the greatest value of a parameter. -/
def paramHigh : ParamName → Nat
  | .lag => 255 | .settle => 63 | .dwell => 15 | .glyphStep => 63 | .snap => 31 | .radius => 255
  | .arm => 32 | .gap => 8 | .stepLimit => 64 | .lossFrames => 15 | .seenFrames => 7
  | .pressWindow => 8

/-- R160: a value clamped into the parameter's range. -/
def paramClamp (n : ParamName) (v : Nat) : Nat := max (paramLow n) (min v (paramHigh n))

/-- The value a parameter has. -/
def PerParam.get {α : Type} (p : PerParam α) : ParamName → α
  | .lag => p.lag | .settle => p.settle | .dwell => p.dwell | .glyphStep => p.glyphStep
  | .snap => p.snap | .radius => p.radius | .arm => p.arm | .gap => p.gap
  | .stepLimit => p.stepLimit | .lossFrames => p.lossFrames | .seenFrames => p.seenFrames
  | .pressWindow => p.pressWindow

/-- One parameter's value replaced. -/
def PerParam.set {α : Type} (p : PerParam α) (n : ParamName) (v : α) : PerParam α :=
  match n with
  | .lag => { p with lag := v }
  | .settle => { p with settle := v }
  | .dwell => { p with dwell := v }
  | .glyphStep => { p with glyphStep := v }
  | .snap => { p with snap := v }
  | .radius => { p with radius := v }
  | .arm => { p with arm := v }
  | .gap => { p with gap := v }
  | .stepLimit => { p with stepLimit := v }
  | .lossFrames => { p with lossFrames := v }
  | .seenFrames => { p with seenFrames := v }
  | .pressWindow => { p with pressWindow := v }

/-- R151: each pending value becomes the value in force; the others stay. -/
def PerParam.apply (p : PerParam Nat) (q : PerParam (Option Nat)) : PerParam Nat :=
  { lag := q.lag.getD p.lag, settle := q.settle.getD p.settle, dwell := q.dwell.getD p.dwell,
    glyphStep := q.glyphStep.getD p.glyphStep, snap := q.snap.getD p.snap,
    radius := q.radius.getD p.radius, arm := q.arm.getD p.arm, gap := q.gap.getD p.gap,
    stepLimit := q.stepLimit.getD p.stepLimit, lossFrames := q.lossFrames.getD p.lossFrames,
    seenFrames := q.seenFrames.getD p.seenFrames,
    pressWindow := q.pressWindow.getD p.pressWindow }

/-- R152: each pending value becomes the mode in force; the others stay. -/
def PerMode.apply (m : PerMode Bool) (q : PerMode (Option Bool)) : PerMode Bool :=
  { overlay := q.overlay.getD m.overlay, hover := q.hover.getD m.hover,
    summary := q.summary.getD m.summary, pickOnPress := q.pickOnPress.getD m.pickOnPress }

/-- R152: the modes an order names replace the pending ones; the others keep theirs. -/
def PerMode.merge (old new : PerMode (Option Bool)) : PerMode (Option Bool) :=
  { overlay := new.overlay.or old.overlay, hover := new.hover.or old.hover,
    summary := new.summary.or old.summary, pickOnPress := new.pickOnPress.or old.pickOnPress }

/-- A mode setting: 0 LEAVE, 1 ON, 2 OFF; 3 is no setting (R161). -/
def settingOf (c : Nat) : Option (Option Bool) :=
  match c with
  | 0 => some none
  | 1 => some (some true)
  | 2 => some (some false)
  | _ => none

/-- The four settings of a SET MODES word; absent if any of them is none of the three. -/
def settingsOf (w : Word) : Option (PerMode (Option Bool)) :=
  match settingOf (bits w 7 6), settingOf (bits w 5 4), settingOf (bits w 3 2),
      settingOf (bits w 1 0) with
  | some o, some h, some s, some p => some ⟨o, h, s, p⟩
  | _, _, _, _ => none

/-- A layer entry from the word that carries it: 15 pickable, 14 draggable, 7..0 priority. -/
def layerEntryOf (w : Word) : LayerEntry :=
  { pickable := flag w 15, draggable := flag w 14, priority := bits w 7 0 }

/-- R143, R150: a priority above 15 breaks the rules of a layer entry. -/
def LayerEntry.valid (e : LayerEntry) : Bool := e.priority ≤ 15

/-- The band of a LOAD OPEN, from its second and third field words. -/
def bandOf (w2 w3 : Word) : Band :=
  { x := bits w2 27 16, y := bits w2 11 0, w := bits w3 28 16, h := bits w3 12 0 }

/-- R121: the ranges of a band. -/
def Band.valid (b : Band) : Bool :=
  1 ≤ b.w && b.w ≤ 4095 && 1 ≤ b.h && b.h ≤ 4095 && b.x + b.w ≤ 4095 && b.y + b.h ≤ 4095

/-- Button kinds by code; 3 is none. -/
def buttonKindOf (c : Nat) : Option ButtonKind :=
  match c with
  | 0 => some .momentary
  | 1 => some .toggle
  | 2 => some .radio
  | _ => none

/-- The four character codes of a word, the first in 31..24. -/
def codesOf (w : Word) : List (BitVec 8) :=
  [w.extractLsb' 24 8, w.extractLsb' 16 8, w.extractLsb' 8 8, w.extractLsb' 0 8]

/-- R143: the rules of a button's fields. -/
def Button.valid (b : Button) : Bool :=
  b.code != 0 &&
  (if b.kind = .radio then b.group != 0 else b.group == 0) &&
  !(b.kind == .momentary && b.latched) &&
  16 ≤ b.w && b.w ≤ 1024 && 16 ≤ b.h && b.h ≤ 1024 &&
  b.x + b.w ≤ 4095 && b.y + b.h ≤ 4095

/-- A button place from its six words (Chapter 11); `none` if a field breaks R143, `some none` if the
place is absent. Label positions at and beyond the label length are ignored. -/
def placeOf (ws : List Word) : Option (Option Button) :=
  let w0 := fieldWord ws 0
  if !flag w0 31 then some none
  else
    match buttonKindOf (bits w0 5 4) with
    | none => none
    | some kind =>
      let len := bits w0 15 12
      let b : Button :=
        { code := bits w0 23 16, kind := kind, group := bits w0 10 8, enabled := flag w0 1,
          latched := flag w0 0,
          x := bits (fieldWord ws 1) 27 16, y := bits (fieldWord ws 1) 11 0,
          w := bits (fieldWord ws 2) 26 16, h := bits (fieldWord ws 2) 10 0,
          label := (codesOf (fieldWord ws 3) ++ codesOf (fieldWord ws 4)
            ++ codesOf (fieldWord ws 5)).take len }
      if len ≤ 12 && b.valid then some (some b) else none

/-- The actions of BUTTON SET, 1..0 of its word. -/
inductive ButtonAction where
  | enable | disable | latch | unlatch
  deriving DecidableEq, Repr

/-- The action code, two bits: every code is an action. -/
def buttonActionOf (c : Nat) : ButtonAction :=
  match c with
  | 0 => .enable
  | 1 => .disable
  | 2 => .latch
  | _ => .unlatch

/-! ## Encodings of table entries (R178) -/

/-- A layer entry's word with every unassigned bit 0. -/
def layerWord (e : LayerEntry) : Word :=
  BitVec.ofNat 32 (putFlag e.pickable 15 + putFlag e.draggable 14 + put e.priority 7 0)

/-- The word of four character codes, positions past the end of the list 0. -/
def codesWord (cs : List (BitVec 8)) : Word :=
  BitVec.ofNat 32 (put (cs.getD 0 0).toNat 31 24 + put (cs.getD 1 0).toNat 23 16
    + put (cs.getD 2 0).toNat 15 8 + put (cs.getD 3 0).toNat 7 0)

/-- The code of a button kind. -/
def buttonKindCode : ButtonKind → Nat
  | .momentary => 0 | .toggle => 1 | .radio => 2

/-- The six words of a button place; an absent place is six words of 0. -/
def placeWords : Option Button → List Word
  | none => [0, 0, 0, 0, 0, 0]
  | some b =>
    [ BitVec.ofNat 32 (putFlag true 31 + put b.code 23 16 + put b.label.length 15 12
        + put b.group 10 8 + put (buttonKindCode b.kind) 5 4 + putFlag b.enabled 1
        + putFlag b.latched 0),
      BitVec.ofNat 32 (put b.x 27 16 + put b.y 11 0),
      BitVec.ofNat 32 (put b.w 26 16 + put b.h 10 0),
      codesWord b.label, codesWord (b.label.drop 4), codesWord (b.label.drop 8) ]

/-- R145: the upper half and the lower half of a word, added. -/
def halves (w : Word) : Nat := bits w 31 16 + bits w 15 0

/-- R145: the sum of the halves of a run of words, modulo 65536. -/
def halfSum (ws : List Word) : Nat := (ws.map halves).sum % 65536

end Sys2Proof.Machine
end

