-- ==== Sys2Proof/Machine/Ops.lean ====
section
/-! DEFINITION. The named operations the commands share: queuing reports and filling slots (R170, R171),
the interleaving of several blocks' reports, LINK faults (R19), the items of the beam port with their
path lengths and lit flags (R4 to R8, R31 to R33), issue (R3, R34, R36), and the naming and
completing of trail entries (R35, R37). -/

namespace Sys2Proof.Machine

/-! ## Return Lane -/

/-- R170: the report becomes the newest of the queue, or is dropped and counted. -/
def ReturnLane.enqueue (l : ReturnLane) (r : Report) : ReturnLane :=
  if l.queue.length < Config.queue then { l with queue := l.queue ++ [r] }
  else { l with lost := bump l.lost }

/-- R170: several reports of one event, in the order given, each on its own (R83). -/
def ReturnLane.enqueueAll (l : ReturnLane) (rs : List Report) : ReturnLane :=
  rs.foldl ReturnLane.enqueue l

/-- Queue one report. -/
def enqueue (r : Report) (s : State) : State := s.setLane (s.lane.enqueue r)

/-- R171: fill the TRACK POSITION slot. -/
def ReturnLane.fillTrack (l : ReturnLane) (frame : Nat) (centre : Point) : ReturnLane :=
  let n := match l.trackSlot with
    | none => 0
    | some old => bump8 old.coalesced
  { l with trackSlot := some ⟨frame, centre, n⟩ }

/-- R171: fill the DRAG MOVE slot. -/
def ReturnLane.fillDrag (l : ReturnLane) (frame : Nat) (centre : Point) (d : Disp) : ReturnLane :=
  let n := match l.dragSlot with
    | none => 0
    | some old => bump8 old.coalesced
  { l with dragSlot := some ⟨frame, centre, d, n⟩ }

/-- The slot, if any, that a change of the centre fills (R108). -/
inductive SlotFill where
  | none
  | track (centre : Point)
  | drag (centre : Point) (disp : Disp)
  deriving DecidableEq, Repr

/-- R108, R171: make the fill, under the frame number given. -/
def ReturnLane.fill (l : ReturnLane) (frame : Nat) : SlotFill → ReturnLane
  | .none => l
  | .track c => l.fillTrack frame c
  | .drag c d => l.fillDrag frame c d

/-- The reports of several blocks at one event, as one sequence: each block's own order is kept, and
whenever two or more blocks have a report left the free choice `Config.reportOrder` picks the block
whose report comes next (log entry 1). `fuel` bounds the number of choices; `k` is the index of the
next one, and the second result the index after the last. -/
def interleave : Nat → Nat → List (List Report) → List Report × Nat
  | 0, k, _ => ([], k)
  | fuel + 1, k, blocks =>
    match blocks.filter (fun b => !b.isEmpty) with
    | [] => ([], k)
    | [one] => (one, k)
    | several =>
      let i := Config.reportOrder k % several.length
      let rest := interleave fuel (k + 1) (several.modify i List.tail)
      ((several.getD i []).take 1 ++ rest.1, rest.2)

/-- Queue the reports several blocks make at one event. -/
def enqueueBlocks (blocks : List (List Report)) (s : State) : State :=
  let merged := interleave (blocks.flatten.length + 1) s.freeIndex blocks
  (s.setLane (s.lane.enqueueAll merged.1)).setFreeIndex merged.2

/-! ## LINK faults -/

/-- R19: a LINK fault: reported and the flag set if the flag is clear, ignored otherwise. -/
def raiseLink (cause : LinkCause) (s : State) : State :=
  if s.decoder.linkFault then s
  else
    let frame := if s.frameOpen then s.decoder.frame else 0
    (enqueue (.faultLink frame cause) s).setDecoder { s.decoder with linkFault := true }

/-! ## Items of the beam port -/

/-- What an issuer passes to the beam port: the item's kind, end point, path length, lit flag, glyph
cells if lit, and words. -/
structure Item where
  kind   : Kind
  stop   : Point
  length : Nat
  lit    : Bool
  glyph  : Option Glyph
  words  : List Word
  deriving DecidableEq, Repr

/-- A MOVE from `beam` to `dest` (R5, R31): unlit, Chebyshev length plus SETTLE. -/
def moveItem (p : PerParam Nat) (beam dest : Point) (words : List Word) : Item :=
  { kind := .move, stop := dest, length := chebyshev beam dest + p.settle, lit := false,
    glyph := none, words := words }

/-- A STROKE from `beam` to `dest` (R6, R31, R32): a dot has length DWELL; lit unless intensity 0. -/
def strokeItem (p : PerParam Nat) (beam dest : Point) (intensity : Nat) (words : List Word) : Item :=
  { kind := .stroke, stop := dest,
    length := if beam = dest then p.dwell else chebyshev beam dest,
    lit := intensity != 0, glyph := none, words := words }

/-- R7: the size and count fields are in range. -/
def glyphInRange (size count : Nat) : Bool := 1 ≤ size && size ≤ 4 && 1 ≤ count && count ≤ 32

/-- A GLYPH RUN from `beam` (R4, R7, R31): out of range, or with count 0, it is unlit, has length 0
and leaves the beam where it is. -/
def glyphItem (p : PerParam Nat) (beam : Point) (size count : Nat) (words : List Word) : Item :=
  if glyphInRange size count then
    { kind := .glyphRun, stop := ⟨min (beam.x + 8 * size * count) 4095, beam.y⟩,
      length := count * p.glyphStep * size, lit := true, glyph := some ⟨size, count⟩,
      words := words }
  else
    { kind := .glyphRun, stop := beam, length := 0, lit := false, glyph := none, words := words }

/-- A FRAME START, FRAME END or opaque item (R4, R8, R31): unlit, of length 0. -/
def flatItem (kind : Kind) (dest : Point) (words : List Word) : Item :=
  { kind := kind, stop := dest, length := 0, lit := false, glyph := none, words := words }

/-- R27: the entity path and layer the Tag Stack gives a list item of the open frame. -/
def TagStack.origin (t : TagStack) : Origin :=
  .list (t.records.map (·.entity)) (t.records.getLast?.map (·.layer))

/-- R27: the empty path of a FRAME START, a generated FRAME END and an unframed item. -/
def untagged : Origin := .list [] none

/-! ## Issue -/

/-- R34, R36: append an entry as the newest; the oldest goes if the Trail would hold more than 48. -/
def Trail.append (t : Trail) (e : Entry) : Trail :=
  { entries := (t.entries ++ [e]).drop (t.entries.length + 1 - Config.trail),
    nextSeq := (t.nextSeq + 1) % 256, outstanding := t.outstanding + 1 }

/-- R3, R29: the entry of an item issued now. -/
def entryOf (it : Item) (o : Origin) (s : State) : Entry :=
  { seq := s.trail.nextSeq, kind := it.kind, origin := o, start := s.decoder.beam, stop := it.stop,
    length := it.length, lit := it.lit, glyph := it.glyph, frame := s.frameMark,
    completed := false }

/-- R3: issue: the trail entry, the outstanding count, the beam position and the words. -/
def issue (it : Item) (o : Origin) (s : State) : State :=
  (s.setTrail (s.trail.append (entryOf it o s))).setDecoder
    { s.decoder with beam := it.stop, backlog := s.decoder.backlog ++ it.words }

/-- R3, R17: an item may be issued while the outstanding count is below 16. -/
def State.windowOpen (s : State) : Bool := s.trail.outstanding < Config.window

/-- R16, R27: the origin of an item the Decoder issues from the stream in the present phase. -/
def State.streamOrigin (s : State) : Origin :=
  if s.decoder.phase = .drawing then s.tags.origin else untagged

/-! ## Naming and completing entries -/

/-- R37: the place, counted from the oldest entry as 0, that a sequence number names. -/
def Trail.locate (t : Trail) (seq : Nat) : Option Nat :=
  match t.entries with
  | [] => none
  | e :: _ =>
    let d := (seq + 256 - e.seq) % 256
    if d < t.entries.length then some d else none

/-- R37: the entry a sequence number names, with its place. -/
def Trail.named (t : Trail) (seq : Nat) : Option (Nat × Entry) :=
  match t.locate seq with
  | none => none
  | some i => (t.entries[i]?).map fun e => (i, e)

/-- R18, R35: the outstanding entries from the oldest up to place `i`. -/
def Trail.run (t : Trail) (i : Nat) : List Entry :=
  (t.entries.take (i + 1)).filter (fun e => !e.completed)

/-- R35: every entry up to place `i` completed; the outstanding count falls by the run's length. -/
def Trail.complete (t : Trail) (i : Nat) : Trail :=
  { t with
    entries := (t.entries.take (i + 1)).map (fun e => { e with completed := true })
      ++ t.entries.drop (i + 1),
    outstanding := t.outstanding - (t.run i).length }

/-- R18: the FRAME END that closes the frame in flight: its frame field carries the current number. -/
def Entry.closes (frame : Nat) (e : Entry) : Bool := e.kind == .frameEnd && e.frame == some frame

/-! ## Resets -/

/-- Every block but the Return Lane at its value after reset; the ports' waiting items, the lines and
the model's own fields stay (R22, R28, R41, R64, R85, R101, R120, R133, R154, R155, R169). -/
def resetBlocks (s : State) : State :=
  { s with
    decoder := .afterReset, tags := .afterReset, trail := .afterReset, corr := .cleared,
    hitSet := [], resolver := .afterReset, pen := .afterReset, tracking := .afterReset,
    overlay := .afterReset, banks := .afterReset, loads := .afterReset, orders := .afterReset }

/-- R168, R176: the in-band reset: a report already passing is kept, all others are removed, and the
REPLY of the RESET is the first of the empty queue, with frame 0 and the frame-open flag clear. -/
def performInBandReset (tag : BitVec 8) (s : State) : State :=
  (resetBlocks s).setLane
    { ReturnLane.afterReset with
      lane := s.lane.lane,
      queue := [.reply tag 0x12 0 false .accepted .absent] }

/-- R11: the list's FRAME END waits in hand with the emission ended. -/
def State.frameEndWaits (s : State) : Bool :=
  s.decoder.phase == .overlay && !s.overlay.emission.emitting

/-- R167, R168: nothing of the drain is left: the count is 0, and no FRAME END waits to be issued. -/
def State.drained (s : State) : Bool := s.trail.outstanding == 0 && !s.frameEndWaits

end Sys2Proof.Machine
end

