-- ==== Sys2Proof/Machine/Overlay.lean ====
section
/-! DEFINITION. The Overlay Generator and the Decoder's held items (Chapter 7, R11, R14): the items of the
cross and of a button, the emission position, issue of the held FRAME END, truncation by sync, and
the changes of the live menu table. -/

namespace Sys2Proof.Machine

/-! ## Words the Generator composes (R3, Chapter 11) -/

/-- A MOVE's word. -/
def moveWords (p : Point) : List Word :=
  [BitVec.ofNat 32 (put 0x03 31 24 + put p.x 23 12 + put p.y 11 0)]

/-- A STROKE's words. -/
def strokeWords (intensity : Nat) (p : Point) : List Word :=
  [BitVec.ofNat 32 (put 0x04 31 24 + put intensity 2 0),
   BitVec.ofNat 32 (put p.x 27 16 + put p.y 11 0)]

/-- A GLYPH RUN's words: the header and four codes a word. -/
def glyphRunWords (size : Nat) (codes : List (BitVec 8)) : List Word :=
  BitVec.ofNat 32 (put 0x05 31 24 + put size 10 8 + put codes.length 7 0)
    :: (List.range ((codes.length + 3) / 4)).map (fun k => codesWord (codes.drop (4 * k)))

/-! ## The cross (R102, R125) -/

/-- The arm of the cross's item `n`, 0..7, in the order E, N, W, S. -/
def crossArm (n : Nat) : Arm :=
  match n / 2 with
  | 0 => .e
  | 1 => .n
  | 2 => .w
  | _ => .s

/-- A point at distance `d` from the centre along an arm. -/
def armPoint (c : Point) (arm : Arm) (d : Nat) : Point :=
  match arm with
  | .e => ⟨c.x + d, c.y⟩
  | .n => ⟨c.x, c.y + d⟩
  | .w => ⟨c.x - d, c.y⟩
  | .s => ⟨c.x, c.y - d⟩

/-- The cross's item `n`: a MOVE to the arm's inner end, or a STROKE at intensity 7 to its outer. -/
def crossItem (p : PerParam Nat) (c beam : Point) (n : Nat) : Item :=
  let arm := crossArm n
  if n % 2 = 0 then
    let dest := armPoint c arm p.gap
    moveItem p beam dest (moveWords dest)
  else
    let dest := armPoint c arm (p.gap + p.arm)
    strokeItem p beam dest 7 (strokeWords 7 dest)

/-! ## A button (R126) -/

/-- The number of items of a button: 5, or 7 with a label. -/
def buttonItems (b : Button) : Nat := if b.label.isEmpty then 5 else 7

/-- The intensity of a button's outline. -/
def buttonIntensity (b : Button) : Nat := if b.latched then 7 else if b.enabled then 5 else 2

/-- The label's start. -/
def labelPoint (b : Button) : Point := ⟨b.x + 4, b.y + (b.h - 12) / 2⟩

/-- Item `n`, 0..6, of a button, composed from the copy. -/
def buttonItem (p : PerParam Nat) (beam : Point) (b : Button) (n : Nat) : Item :=
  let outline := fun dest => strokeItem p beam dest (buttonIntensity b)
    (strokeWords (buttonIntensity b) dest)
  match n with
  | 0 => moveItem p beam ⟨b.x, b.y⟩ (moveWords ⟨b.x, b.y⟩)
  | 1 => outline ⟨b.x + b.w, b.y⟩
  | 2 => outline ⟨b.x + b.w, b.y + b.h⟩
  | 3 => outline ⟨b.x, b.y + b.h⟩
  | 4 => outline ⟨b.x, b.y⟩
  | 5 => moveItem p beam (labelPoint b) (moveWords (labelPoint b))
  | _ => glyphItem p beam 1 b.label.length (glyphRunWords 1 b.label)

/-- The button a place of a menu bank holds. -/
def placeAt (t : MenuTable) (i : Nat) : Option Button := (t.places[i]?).getD none

/-- R126: the emission position at index `i` or the next present place after it: that place is read
and its button copied; with no present place left the emission has ended (R124). -/
def reach (t : MenuTable) (i : Nat) : Emission :=
  match ((List.range 24).filter (fun j => i ≤ j)).findSome?
      (fun j => (placeAt t j).map fun b => (j, b)) with
  | some (j, b) => .button j b 0
  | none => .idle

/-- R124: what the emission holds when the list's FRAME END is taken. -/
def beginEmission (s : State) : Emission :=
  if !s.overlay.permission then .idle
  else if s.pen.state = .seen ∨ s.pen.state = .tracking then .cross 0
  else reach s.banks.menuLive 0

/-- The emission position after an item has been issued. -/
def nextEmission (t : MenuTable) : Emission → Emission
  | .idle => .idle
  | .cross n => if n + 1 < 8 then .cross (n + 1) else reach t 0
  | .button i b n => if n + 1 < buttonItems b then .button i b (n + 1) else reach t (i + 1)

/-- The next item of an emission, with its origin (R30, R125, R126). -/
def emissionItem (s : State) : Emission → Option (Item × Origin)
  | .idle => none
  | .cross n => some (crossItem s.banks.params s.tracking.centre s.decoder.beam n, .cross (crossArm n))
  | .button i b n => some (buttonItem s.banks.params s.decoder.beam b n, .menu i b.code b.enabled)

/-! ## The items in hand (R11, R14) -/

/-- R11: issue the list's FRAME END in hand, once emission has ended and the window allows; the phase
becomes CLOSING. Nothing otherwise. -/
def issueHeldFrameEnd (s : State) : State :=
  match s.decoder.inHand with
  | some (.frameEnd low) =>
    if s.frameEndWaits && s.windowOpen then
      let s := issue (flatItem .frameEnd s.decoder.beam [firstWord 0x02 low]) s.tags.origin s
      s.setDecoder { s.decoder with inHand := none, phase := .closing }
    else s
  | _ => s

/-- R14: the generated FRAME END of the frame is outstanding. -/
def State.generatedIssued (s : State) : Bool :=
  s.trail.entries.any (fun e => e.closes s.decoder.frame && !e.completed)

/-- R14: issue the Decoder's own FRAME END in UNCLOSING, with an empty path, once the window allows.
Nothing otherwise. -/
def issueGeneratedFrameEnd (s : State) : State :=
  if s.decoder.phase = .unclosing ∧ !s.generatedIssued ∧ s.windowOpen then
    issue (flatItem .frameEnd s.decoder.beam [firstWord 0x02 0]) untagged s
  else s

/-- R127: issue the next item of the emission, and the FRAME END in hand if the emission ends with it.
At a full window the Generator pauses. -/
def overlayIssue (s : State) : State :=
  match emissionItem s s.overlay.emission with
  | none => s
  | some (it, o) =>
    if s.windowOpen then
      let s := issue it o s
      issueHeldFrameEnd
        (s.setOverlay { s.overlay with
          emission := nextEmission s.banks.menuLive s.overlay.emission })
    else s

/-! ## Truncation (R128) -/

/-- The items of the buttons present at index `i` and after it in the live menu table. -/
def itemsFrom (t : MenuTable) (i : Nat) : Nat :=
  (((List.range 24).filter (fun j => i ≤ j)).map
    (fun j => match placeAt t j with | some b => buttonItems b | none => 0)).sum

/-- R128.1: the items of the emission not yet issued. -/
def dropped (t : MenuTable) : Emission → Nat
  | .idle => 0
  | .cross n => (8 - n) + itemsFrom t 0
  | .button i b n => (buttonItems b - n) + itemsFrom t (i + 1)

/-- R128, R129: a sync arrival. -/
def syncEffect (s : State) : State :=
  if s.overlay.emission.emitting then
    let serial := nextSerial s.overlay.serial
    let n := dropped s.banks.menuLive s.overlay.emission
    let s := s.setOverlay
      { s.overlay with emission := .idle, faultActive := true, serial := serial }
    issueHeldFrameEnd (enqueue (.faultOverlay s.decoder.frame serial n) s)
  else s

/-! ## Changes of the live menu table (R134, R136, R137) -/

/-- A button of the group of `b`, latched, at another place than `i`. -/
def latchedOther (t : MenuTable) (i : Nat) (b : Button) (j : Nat) : Bool :=
  match placeAt t j with
  | some c => j != i && c.kind == .radio && c.group == b.group && c.latched
  | none => false

/-- R134, R136: latch place `i` holding `b`; for a RADIO button every other latched button of its group
is unlatched in the same event. -/
def latch (t : MenuTable) (i : Nat) (b : Button) : MenuTable :=
  { t with
    places := t.places.mapIdx fun j p =>
      p.map fun c =>
        if j = i then { c with latched := true }
        else if b.kind = .radio ∧ latchedOther t i b j then { c with latched := false }
        else c }

/-- Place `i` of the table changed by `f`, if it holds a button. -/
def changeButton (t : MenuTable) (i : Nat) (f : Button → Button) : MenuTable :=
  { t with places := t.places.setIfInBounds i ((placeAt t i).map f) }

/-- R134: the action of a menu selection on the button at place `i`. -/
def menuAction (t : MenuTable) (i : Nat) (b : Button) : MenuTable :=
  match b.kind with
  | .momentary => t
  | .toggle => changeButton t i fun c => { c with latched := !c.latched }
  | .radio => latch t i b

/-- R136: the action of a BUTTON SET on place `i` holding `b`. -/
def applyAction (t : MenuTable) (i : Nat) (b : Button) : ButtonAction → MenuTable
  | .enable => changeButton t i fun c => { c with enabled := true }
  | .disable => changeButton t i fun c => { c with enabled := false }
  | .latch => latch t i b
  | .unlatch => changeButton t i fun c => { c with latched := false }

/-- R137: a BUTTON SET of place `i` would change the button in emission. -/
def collides (t : MenuTable) (em : Emission) (i : Nat) (b : Button) (a : ButtonAction) : Bool :=
  match em with
  | .button j _ _ => j == i || (a == .latch && b.kind == .radio && latchedOther t i b j)
  | _ => false

end Sys2Proof.Machine
end

