-- ==== Sys2Proof/Machine/FrameOpen.lean ====
section
/-! DEFINITION. The open of a frame (R9 and the open work of every block): the Table Banks (R148 to R153),
the Pen Monitor (R86 to R91), the Tracking Unit (R105, R110, R112 to R114), the Pick Resolver (R70,
R71, R78, R81), the Overlay Generator (R123), and the emptying of the frame's state (R26, R63, R84). -/

namespace Sys2Proof.Machine

/-! ## Table Banks -/

/-- R148: a session's state after an open. -/
def Session.afterOpen : Session → Session
  | .swapPending => .none
  | s => s

/-- R148, R150 to R153: swaps, pending layer sets, parameters and modes applied. -/
def Banks.openWork (b : Banks) (l : Loads) : Banks :=
  let swapL := decide (l.layers = .swapPending)
  let swapM := decide (l.menu = .swapPending)
  let live := if swapL then b.layersShadow else b.layersLive
  { layersLive := live.mapIdx fun i e => ((b.pendingLayers[i]?).getD none).getD e,
    layersShadow := if swapL then b.layersLive else b.layersShadow,
    menuLive := if swapM then b.menuShadow else b.menuLive,
    menuShadow := if swapM then b.menuLive else b.menuShadow,
    pendingLayers := Vector.replicate 64 none, pendingParams := .all none,
    pendingModes := .all none, params := b.params.apply b.pendingParams,
    modes := b.modes.apply b.pendingModes }

/-- R148: both sessions after an open. -/
def Loads.openWork (l : Loads) : Loads := ⟨l.layers.afterOpen, l.menu.afterOpen⟩

/-! ## Pen Monitor -/

/-- R87: one line debounced: the new debounced value, from the level read, the raw sample kept and the
debounced value. -/
def debounced {α : Type} [DecidableEq α] (level raw kept : α) : α :=
  if level = raw then level else kept

/-- R87: both lines sampled and debounced; the pen state and counts as they were. -/
def Pen.sample (p : Pen) (pins : Pins) : Pen :=
  { p with
    holder := debounced (holderLevel pins) p.rawHolder p.holder,
    tip := debounced (tipLevel pins) p.rawTip p.tip,
    rawHolder := holderLevel pins, rawTip := tipLevel pins }

/-- What changed at an open between the pen before it and after its debouncing. -/
structure LineChange where
  toInside  : Bool
  toOutside : Bool
  toDown    : Bool
  toUp      : Bool
  deriving DecidableEq, Repr

/-- The changes of the debounced lines from `p` to `q`. -/
def lineChange (p q : Pen) : LineChange :=
  { toInside := p.holder == .outside && q.holder == .inside,
    toOutside := p.holder == .inside && q.holder == .outside,
    toDown := p.tip == .up && q.tip == .down,
    toUp := p.tip == .down && q.tip == .up }

/-- R89, R90: the pen state by the holder's change, before a placement. -/
def Pen.byHolder (p : Pen) (c : LineChange) : Pen :=
  if c.toInside then { p with state := .stowed, seen := 0, loss := 0 }
  else if c.toOutside then { p with state := .lifted }
  else p

/-- R91, R110: the pen placed: TRACKING, both counts 0. -/
def Pen.placed (p : Pen) : Pen := { p with state := .tracking, seen := 0, loss := 0 }

/-- What the Pen Monitor's open work leaves: the pen, the changes, whether a placement is applied, and
the pen state just before the placement. -/
structure PenOpen where
  pen      : Pen
  change   : LineChange
  placed   : Bool
  unplaced : PenState
  deriving DecidableEq, Repr

/-- R87 to R91: the Pen Monitor's work at an open, with or without a pending placement. -/
def Pen.openWork (p : Pen) (pins : Pins) (placement : Bool) : PenOpen :=
  let q := p.sample pins
  let c := lineChange p q
  let h := q.byHolder c
  let placed := placement && h.state != .stowed
  { pen := if placed then h.placed else h, change := c, placed := placed, unplaced := h.state }

/-- R88 to R91, R97, R99: the Pen Monitor's reports at an open, in its own order. -/
def PenOpen.reports (o : PenOpen) (frame : Nat) (centre : Point) : List Report :=
  (if o.change.toInside then [.penEvent frame .stowed o.pen.holder o.pen.tip o.pen.state]
   else if o.change.toOutside then [.penEvent frame .lifted o.pen.holder o.pen.tip o.pen.state]
   else []) ++
  (if o.change.toDown && o.pen.holder == .inside then
     [.penEvent frame .tipInHolder o.pen.holder o.pen.tip o.pen.state]
   else []) ++
  (if o.placed && o.unplaced != .tracking then [.trackAcquired frame .placed centre] else [])

/-! ## Tracking Unit -/

/-- What a block of the part does at an event to the drag and what it reports of it. -/
structure DragStep where
  drag    : Option Drag
  reports : List Report
  deriving DecidableEq, Repr

/-- R105, items 3 to 5: the drag ended by the holder or the tip, its release held, or a drag started. -/
def dragAtOpen (o : PenOpen) (request : Bool) (frame : Nat) (centre : Point) (drag : Option Drag) :
    DragStep :=
  match drag with
  | some d =>
    if o.pen.state = .stowed then
      ⟨none, [.dragEnd frame .stowed centre (displacement centre d.origin)]⟩
    else if o.change.toUp then
      if d.suspended then ⟨some { d with releasePending := true }, []⟩
      else ⟨none, [.dragEnd frame .released centre (displacement centre d.origin)]⟩
    else ⟨some d, []⟩
  | none =>
    if request && o.pen.state == .tracking && o.pen.tip == .down && !o.placed then
      ⟨some ⟨centre, false, false, 0⟩, [.dragStart frame centre]⟩
    else ⟨none, []⟩

/-- What the Tracking Unit's open work leaves. -/
structure TrackOpen where
  tracking : Tracking
  reports  : List Report
  fill     : SlotFill
  deriving DecidableEq, Repr

/-- R110: the centre after item 1 of R105, clamped by item 2. -/
def centreAtOpen (t : Tracking) (p : PerParam Nat) (placed : Bool) : Point :=
  clampPoint p (if placed then t.placement.getD t.centre else t.centre)

/-- R108: the slot a change of the centre at an open fills: pen state TRACKING before and after, and no
DRAG START or DRAG END at this open. -/
def fillAtOpen (before after : PenState) (old new : Point) (step : DragStep) : SlotFill :=
  if before = .tracking ∧ after = .tracking ∧ old ≠ new ∧ step.reports = [] then
    match step.drag with
    | none => .track new
    | some d => .drag new (displacement new d.origin)
  else .none

/-- R105: the Tracking Unit's work at an open. -/
def Tracking.openWork (t : Tracking) (p : PerParam Nat) (before : PenState) (o : PenOpen)
    (request : Bool) (frame : Nat) : TrackOpen :=
  let c := centreAtOpen t p o.placed
  let step := dragAtOpen o request frame c t.drag
  { tracking := { centre := c, placement := none, drag := step.drag },
    reports := step.reports,
    fill := fillAtOpen before o.pen.state t.centre c step }

/-! ## Pick Resolver -/

/-- R70, R71: the press window at an open. -/
def pressAtOpen (o : PenOpen) (window : Nat) : PressWindow → PressWindow
  | .closed => if o.change.toDown && o.pen.holder == .outside then .opened 1 window else .closed
  | .opened k w => if o.change.toUp || o.change.toInside then .closed else .opened (k + 1) w

/-- R71: the PICK MISS of a window closed at an open. -/
def missAtOpen (o : PenOpen) (frame : Nat) : PressWindow → List Report
  | .closed => []
  | .opened _ _ => if o.change.toUp || o.change.toInside then [.pick frame none] else []

/-- R81: the hover is cleared at this open. -/
def hoverCleared (r : Resolver) (state : PenState) (hoverOn : Bool) : Bool :=
  !r.lastHover.isEmpty && (state != .tracking || !hoverOn)

/-- R70, R71, R78, R81: the Pick Resolver after an open; its drag request is absent. -/
def Resolver.openWork (r : Resolver) (o : PenOpen) (p : PerParam Nat) (m : PerMode Bool) :
    Resolver :=
  { press := pressAtOpen o p.pressWindow r.press,
    lastHover := if hoverCleared r o.pen.state m.hover then [] else r.lastHover,
    dragRequest := false }

/-- R81: the Pick Resolver's reports at an open: the PICK MISS first, the empty HOVER second. -/
def Resolver.openReports (r : Resolver) (o : PenOpen) (m : PerMode Bool) (frame : Nat) :
    List Report :=
  missAtOpen o frame r.press ++
  (if hoverCleared r o.pen.state m.hover then [.hover frame []] else [])

/-! ## Overlay Generator -/

/-- R123: the overlay enable and the frame's overlay permission. -/
def Overlay.openWork (v : Overlay) (m : PerMode Bool) : Overlay :=
  { v with enable := m.overlay, permission := m.overlay && !v.faultActive }

/-! ## The open -/

/-- R9: the Decoder's own part of the open, but for the issue. -/
def Decoder.openWork (d : Decoder) : Decoder :=
  { d with phase := .drawing, frame := nextFrame d.frame, inHand := none, linkFault := false }

/-- R9: a frame opens with the FRAME START whose bits below the kind are `low`: one event for all
blocks, each reading the tables, parameters and modes applied at this open. -/
def openFrame (low : Low) (s : State) : State :=
  let b := s.banks.openWork s.loads
  let frame := nextFrame s.decoder.frame
  let o := s.pen.openWork s.pins s.tracking.placement.isSome
  let t := s.tracking.openWork b.params s.pen.state o s.resolver.dragRequest frame
  let s1 := { s with
    decoder := s.decoder.openWork, tags := .afterReset, corr := .cleared, hitSet := [],
    banks := b, loads := s.loads.openWork, pen := o.pen, tracking := t.tracking,
    resolver := s.resolver.openWork o b.params b.modes, overlay := s.overlay.openWork b.modes }
  let s2 := enqueueBlocks
    [o.reports frame t.tracking.centre, s.resolver.openReports o b.modes frame, t.reports] s1
  let s3 := s2.setLane (s2.lane.fill frame t.fill)
  issue (flatItem .frameStart ⟨0, 0⟩ [firstWord 0x01 low]) untagged s3

end Sys2Proof.Machine
end

