-- ==== Sys2Proof/Machine/Tables.lean ====
section
/-! DEFINITION. What the orders of the Table Banks, the Load Controller and the Overlay Generator do
(Chapters 7 and 8): each gives the state it leaves and its answer, which the Order Unit puts into the
REPLY (R156). -/

namespace Sys2Proof.Machine

/-- What an order's owner answers (R156): the state, the status with its reason, the payload, and the
reports of other kinds the order causes. -/
structure Answer where
  state   : State
  status  : Status
  payload : Payload := .absent
  extra   : List Report := []
  deriving DecidableEq, Repr

/-- An order refused, with nothing changed. -/
def refuse (r : Reason) (s : State) : Answer := { state := s, status := .refused r }

/-- An order answered WAIT, IGNORED or COLLIDED, with nothing changed. -/
def answer (st : Status) (s : State) : Answer := { state := s, status := st }

/-- An order carried out. -/
def accept (s : State) : Answer := { state := s, status := .accepted }

/-! ## Sessions -/

/-- The session record of a table. -/
def Loads.get (l : Loads) : Table → Session
  | .layers => l.layers
  | .menu => l.menu

/-- The session record of a table replaced. -/
def Loads.put (l : Loads) (t : Table) (v : Session) : Loads :=
  match t with
  | .layers => { l with layers := v }
  | .menu => { l with menu := v }

/-- The state with one table's session record replaced. -/
def setSession (t : Table) (v : Session) (s : State) : State := s.setLoads (s.loads.put t v)

/-- R142: the entry counts a table's load may have. -/
def countInRange (t : Table) (e : Nat) : Bool :=
  match t with
  | .layers => 1 ≤ e && e ≤ 64
  | .menu => e ≤ 24

/-- R142.6: the shadow bank cleared to defaults; the menu's band is the one given, if any. -/
def clearShadow (t : Table) (band : Option Band) (s : State) : State :=
  match t with
  | .layers => s.setBanks { s.banks with layersShadow := .cleared }
  | .menu => s.setBanks { s.banks with menuShadow := { MenuTable.cleared with band := band } }

/-- R142: LOAD OPEN. -/
def loadOpenOwner (f : List Word) (s : State) : Answer :=
  let w := fieldWord f 0
  let count := bits w 23 16
  let band := if f.length = 3 then some (bandOf (fieldWord f 1) (fieldWord f 2)) else none
  match tableOf w with
  | none => refuse .range s
  | some t =>
    match s.loads.get t with
    | .swapPending => answer .wait s
    | .opened _ _ _ => refuse .sessionOpen s
    | .none =>
      if !countInRange t count then refuse .range s
      else if band.isSome && (t == .layers || !(band.any Band.valid)) then refuse .badField s
      else accept (setSession t (.opened count (bits w 15 0) []) (clearShadow t band s))

/-- R144: the entry map with the indices of a segment added, each once. -/
def mapAdd (map : List Nat) (first n : Nat) : List Nat :=
  ((List.range n).map (first + ·)).foldl (fun m i => if m.contains i then m else m ++ [i]) map

/-- Entries written into a bank from index `first` on, in list order. -/
def writeFrom {α : Type} {n : Nat} (v : Vector α n) (first : Nat) (es : List α) : Vector α n :=
  es.zipIdx.foldl (fun v e => v.setIfInBounds (first + e.2) e.1) v

/-- The button places of a segment; absent if a field of any breaks its rules (R143.5). -/
def placesOf (f : List Word) : Nat → Option (List (Option Button))
  | 0 => some []
  | n + 1 =>
    match placeOf (f.take 6), placesOf (f.drop 6) n with
    | some p, some ps => some (p :: ps)
    | _, _ => none

/-- R143.5, R144: the shadow bank with a segment written; absent if an entry breaks its rules. -/
def writeSegment (t : Table) (b : Banks) (first n : Nat) (entries : List Word) : Option Banks :=
  match t with
  | .layers =>
    let es := entries.map layerEntryOf
    if es.all LayerEntry.valid then some { b with layersShadow := writeFrom b.layersShadow first es }
    else none
  | .menu =>
    (placesOf entries n).map fun ps =>
      { b with
        menuShadow := { b.menuShadow with places := writeFrom b.menuShadow.places first ps } }

/-- R143: LOAD SEGMENT. -/
def loadSegmentOwner (f : List Word) (s : State) : Answer :=
  let w := fieldWord f 0
  let first := bits w 23 16
  let n := bits w 7 0
  match tableOf w with
  | none => refuse .range s
  | some t =>
    match s.loads.get t with
    | .opened count sum map =>
      if n = 0 ∨ 8 < n then refuse .badField s
      else if count < first + n then refuse .range s
      else
        match writeSegment t s.banks first n f.tail with
        | none => refuse .badField s
        | some b =>
          accept (setSession t (.opened count sum (mapAdd map first n)) (s.setBanks b))
    | _ => refuse .noSession s

/-- R145, R178: the words of entries 0..E − 1 of the shadow bank, encoded afresh. -/
def shadowWords (t : Table) (b : Banks) (count : Nat) : List Word :=
  match t with
  | .layers => (List.range count).map fun i => layerWord ((b.layersShadow[i]?).getD .default)
  | .menu => (List.range count).flatMap fun i => placeWords (placeAt b.menuShadow i)

/-- R122, R146.5: two or more latched buttons in one radio group. -/
def radioConflict (t : MenuTable) : Bool :=
  (List.range 24).any fun i =>
    match placeAt t i with
    | some b => b.kind == .radio && b.latched && (List.range 24).any (latchedOther t i b)
    | none => false

/-- R146: LOAD CLOSE. -/
def loadCloseOwner (f : List Word) (s : State) : Answer :=
  match tableOf (fieldWord f 0) with
  | none => refuse .range s
  | some t =>
    match s.loads.get t with
    | .opened count sum map =>
      if !(List.range count).all map.contains then refuse .incomplete s
      else if halfSum (shadowWords t s.banks count) ≠ sum then
        { state := setSession t .none s, status := .refused .checksum }
      else if t == .menu && radioConflict s.banks.menuShadow then refuse .conflict s
      else
        let s := setSession t .swapPending s
        match t with
        | .layers => accept (s.setBanks { s.banks with pendingLayers := Vector.replicate 64 none })
        | .menu => accept s
    | _ => refuse .noSession s

/-- R147: LOAD ABORT. -/
def loadAbortOwner (f : List Word) (s : State) : Answer :=
  match tableOf (fieldWord f 0) with
  | none => refuse .range s
  | some t =>
    match s.loads.get t with
    | .opened _ _ _ => accept (setSession t .none s)
    | _ => answer .ignored s

/-- R150: LAYER SET. -/
def layerSetOwner (f : List Word) (s : State) : Answer :=
  let w := fieldWord f 0
  let layer := bits w 31 24
  let e := layerEntryOf w
  if 63 < layer then refuse .range s
  else if !e.valid then refuse .badField s
  else if s.loads.layers = .swapPending then answer .wait s
  else
    accept (s.setBanks { s.banks with
      pendingLayers := s.banks.pendingLayers.setIfInBounds layer (some e) })

/-- R136, R137: BUTTON SET. -/
def buttonSetOwner (f : List Word) (s : State) : Answer :=
  let w := fieldWord f 0
  let i := bits w 15 8
  let a := buttonActionOf (bits w 1 0)
  if s.loads.menu = .swapPending then answer .wait s
  else
    match placeAt s.banks.menuLive i with
    | none => refuse .range s
    | some b =>
      if a = .latch ∧ b.kind = .momentary then refuse .range s
      else if collides s.banks.menuLive s.overlay.emission i b a then answer .collided s
      else accept (s.setBanks { s.banks with menuLive := applyAction s.banks.menuLive i b a })

/-- R130: CLEAR FAULT. -/
def clearFaultOwner (f : List Word) (s : State) : Answer :=
  if !s.overlay.faultActive then answer .ignored s
  else if bits (fieldWord f 0) 7 0 = s.overlay.serial then
    accept (s.setOverlay { s.overlay with faultActive := false })
  else refuse .staleSerial s

end Sys2Proof.Machine
end

