-- ==== Sys2Proof/Machine/Orders.lean ====
section
/-! DEFINITION. The taking of each order (Chapter 9): the length test (R159), the owner's work, the reports
the order causes and its REPLY (R156, R157), and the reset-armed flag (R165). One `take…` for each
order; the port (`Port.lean`) calls it when the order is taken. -/

namespace Sys2Proof.Machine

/-- R165: the taking of any item other than a RESET clears the reset-armed flag. -/
def clearArmed (s : State) : State := s.setOrders { s.orders with armed := false }

/-- R156: a report of another kind that an order causes is queued before the REPLY when the queue has a
place free beyond the place the REPLY takes; otherwise it is lost and counted. -/
def enqueueBeforeReply (s : State) (r : Report) : State :=
  if s.lane.queue.length + 1 < Config.queue then enqueue r s
  else s.setLane { s.lane with lost := bump s.lane.lost }

/-- R156, R157, R159, R165: the taking of an order other than RESET, as one event: the reset-armed flag
cleared, the length tested, the owner's work done, and the REPLY queued with the frame number and the
frame-open flag as they stood when the order was taken. -/
def takeOrder (code tag : BitVec 8) (lengthOk : Bool) (owner : State → Answer) (s : State) :
    State :=
  let s0 := clearArmed s
  let a := if lengthOk then owner s0 else refuse .badField s0
  enqueue (.reply tag code s.decoder.frame s.frameOpen a.status a.payload)
    (a.extra.foldl enqueueBeforeReply a.state)

/-! ## Parameters and modes -/

/-- R160: SET PARAMETER. -/
def setParameterOwner (f : List Word) (s : State) : Answer :=
  let w := fieldWord f 0
  let value := bits w 15 0
  match paramOf (bits w 31 16) with
  | none => refuse .range s
  | some n =>
    let v := paramClamp n value
    { state := s.setBanks { s.banks with
        pendingParams := s.banks.pendingParams.set n (some v) },
      status := if v = value then .accepted else .adjusted,
      payload := .param n v }

/-- R131, R152, R161: SET MODES. -/
def setModesOwner (f : List Word) (s : State) : Answer :=
  match settingsOf (fieldWord f 0) with
  | none => refuse .badField s
  | some m =>
    if m.overlay = some true ∧ s.overlay.faultActive then refuse .faultActive s
    else accept (s.setBanks { s.banks with pendingModes := s.banks.pendingModes.merge m })

/-! ## Tracking Unit -/

/-- R109: PLACE CROSS. -/
def placeCrossOwner (f : List Word) (s : State) : Answer :=
  if s.pen.state = .stowed then refuse .penStowed s
  else if s.tracking.drag.isSome then refuse .dragActive s
  else accept (s.setTracking { s.tracking with placement := some (pointOf (fieldWord f 0)) })

/-- R116: SUSPEND DRAG. -/
def suspendDragOwner (s : State) : Answer :=
  match s.tracking.drag with
  | none => answer .ignored s
  | some d =>
    if d.suspended then answer .ignored s
    else if s.decoder.frame = d.resumeFrame then answer .wait s
    else accept (s.setTracking { s.tracking with drag := some { d with suspended := true } })

/-- R115: the DRAG END of a drag ended by an order, with the centre as it stands. -/
def dragEndNow (outcome : DragOutcome) (d : Drag) (s : State) : Report :=
  .dragEnd s.decoder.frame outcome s.tracking.centre (displacement s.tracking.centre d.origin)

/-- R118: RESUME DRAG. -/
def resumeDragOwner (s : State) : Answer :=
  match s.tracking.drag with
  | none => answer .ignored s
  | some d =>
    if !d.suspended then answer .ignored s
    else if d.releasePending then
      { state := s.setTracking { s.tracking with drag := none }, status := .accepted,
        extra := [dragEndNow .released d s] }
    else
      accept ((s.setTracking { s.tracking with
        drag := some { d with suspended := false, resumeFrame := s.decoder.frame } }).setPen
          { s.pen with loss := 0 })

/-- R119: CANCEL DRAG. -/
def cancelDragOwner (s : State) : Answer :=
  match s.tracking.drag with
  | none => answer .ignored s
  | some d =>
    { state := s.setTracking { s.tracking with drag := none }, status := .accepted,
      extra := [dragEndNow .cancelled d s] }

/-! ## Orders that answer with a payload -/

/-- R163: the STATUS payload, read when the order is taken, before its taking clears the flag. -/
def statusData (s : State) : StatusData :=
  { penState := s.pen.state, holder := s.pen.holder, tip := s.pen.tip,
    dragActive := s.tracking.drag.isSome, suspended := s.tracking.suspended,
    releasePending := s.tracking.releasePending, overlayEnable := s.overlay.enable,
    faultActive := s.overlay.faultActive, serial := s.overlay.serial,
    layerSession := s.loads.layers.state, menuSession := s.loads.menu.state,
    occupancy := s.lane.queue.length, frame := s.decoder.frame, frameOpen := s.frameOpen,
    outstanding := s.trail.outstanding, armed := s.orders.armed }

/-! ## The takings, one for each order -/

/-- R160. -/
def takeSetParameter (tag : BitVec 8) (f : List Word) (s : State) : State :=
  takeOrder 0x01 tag (f.length == 1) (setParameterOwner f) s

/-- R161. -/
def takeSetModes (tag : BitVec 8) (f : List Word) (s : State) : State :=
  takeOrder 0x02 tag (f.length == 1) (setModesOwner f) s

/-- R150. -/
def takeLayerSet (tag : BitVec 8) (f : List Word) (s : State) : State :=
  takeOrder 0x03 tag (f.length == 1) (layerSetOwner f) s

/-- R136. -/
def takeButtonSet (tag : BitVec 8) (f : List Word) (s : State) : State :=
  takeOrder 0x04 tag (f.length == 1) (buttonSetOwner f) s

/-- R142: one length without a band, another with one. -/
def takeLoadOpen (tag : BitVec 8) (f : List Word) (s : State) : State :=
  takeOrder 0x05 tag (f.length == 1 || f.length == 3) (loadOpenOwner f) s

/-- R159: a LOAD SEGMENT's length is tested against its table code and its own count of entries; with
no first field word it fails. -/
def segmentLengthOk (f : List Word) : Bool :=
  match f with
  | [] => false
  | w :: rest =>
    let n := bits w 7 0
    if tableOf w = some .menu then rest.length == 6 * n else rest.length == n

/-- R143. -/
def takeLoadSegment (tag : BitVec 8) (f : List Word) (s : State) : State :=
  takeOrder 0x06 tag (segmentLengthOk f) (loadSegmentOwner f) s

/-- R146. -/
def takeLoadClose (tag : BitVec 8) (f : List Word) (s : State) : State :=
  takeOrder 0x07 tag (f.length == 1) (loadCloseOwner f) s

/-- R147. -/
def takeLoadAbort (tag : BitVec 8) (f : List Word) (s : State) : State :=
  takeOrder 0x08 tag (f.length == 1) (loadAbortOwner f) s

/-- R109. -/
def takePlaceCross (tag : BitVec 8) (f : List Word) (s : State) : State :=
  takeOrder 0x09 tag (f.length == 1) (placeCrossOwner f) s

/-- R116. -/
def takeSuspendDrag (tag : BitVec 8) (f : List Word) (s : State) : State :=
  takeOrder 0x0A tag (f.length == 0) suspendDragOwner s

/-- R118. -/
def takeResumeDrag (tag : BitVec 8) (f : List Word) (s : State) : State :=
  takeOrder 0x0B tag (f.length == 0) resumeDragOwner s

/-- R119. -/
def takeCancelDrag (tag : BitVec 8) (f : List Word) (s : State) : State :=
  takeOrder 0x0C tag (f.length == 0) cancelDragOwner s

/-- R130. -/
def takeClearFault (tag : BitVec 8) (f : List Word) (s : State) : State :=
  takeOrder 0x0D tag (f.length == 1) (clearFaultOwner f) s

/-- R162: MARK changes no state; its value is its payload. -/
def takeMark (tag : BitVec 8) (f : List Word) (s : State) : State :=
  takeOrder 0x0E tag (f.length == 1)
    (fun s0 => { state := s0, status := .accepted, payload := .mark (bits (fieldWord f 0) 15 0) }) s

/-- R163. -/
def takeStatus (tag : BitVec 8) (f : List Word) (s : State) : State :=
  takeOrder 0x0F tag (f.length == 0)
    (fun s0 => { state := s0, status := .accepted, payload := .status (statusData s) }) s

/-- R164. -/
def takeDescribe (tag : BitVec 8) (f : List Word) (s : State) : State :=
  takeOrder 0x10 tag (f.length == 0)
    (fun s0 => { state := s0, status := .accepted, payload := .describe }) s

/-- R165: RESET ENABLE sets the flag. -/
def takeResetEnable (tag : BitVec 8) (f : List Word) (s : State) : State :=
  takeOrder 0x11 tag (f.length == 0)
    (fun s0 => accept (s0.setOrders { s0.orders with armed := true })) s

/-- R166, R168: RESET: refused NOT ARMED with the flag clear; otherwise the order in hand, and the reset
performed at once if nothing is outstanding. A RESET of a wrong length is no RESET (R165). -/
def takeReset (tag : BitVec 8) (f : List Word) (s : State) : State :=
  if f.length ≠ 0 then takeOrder 0x12 tag false accept s
  else if s.orders.armed then
    let s := s.setOrders { armed := false, inHand := some tag }
    if s.drained then performInBandReset tag s else s
  else takeOrder 0x12 tag true (refuse .notArmed) s

/-- R159. -/
def takeUnknownOrder (code tag : BitVec 8) (_f : List Word) (s : State) : State :=
  takeOrder code tag true (refuse .unknownOrder) s

end Sys2Proof.Machine
end

