-- ==== Sys2Proof/Machine/StreamItems.lean ====
section
/-! DEFINITION. The taking of each drawing, opaque and TAG item (Chapters 1 and 2), one `take…` for each;
the port (`Port.lean`) calls it when the item is taken. Every taking clears the reset-armed flag first
(R165). -/

namespace Sys2Proof.Machine

/-- R25: the tag faults counted when the frame's last taken item arrives: one for each record and one for
each level of overflow depth. -/
def countOpenTags (s : State) : State := tagFaults (s.tags.records.length + s.tags.overflow) s

/-- R9, R14: FRAME START: opens a frame in IDLE; in DRAWING it ends the open frame unclosed, is put in
hand, and the generated FRAME END is issued if the window allows. -/
def takeFrameStart (low : Low) (s : State) : State :=
  let s := clearArmed s
  match s.decoder.phase with
  | .idle => openFrame low s
  | .drawing =>
    let s := countOpenTags s
    issueGeneratedFrameEnd (s.setDecoder
      { s.decoder with phase := .unclosing, inHand := some (.frameStart low) })
  | _ => s

/-- R10, R16, R124: FRAME END: issued unframed in IDLE; in DRAWING it is put in hand and the emission
begins, and if the emission is empty the FRAME END is issued as the window allows. -/
def takeFrameEnd (low : Low) (s : State) : State :=
  let s := clearArmed s
  match s.decoder.phase with
  | .idle => issue (flatItem .frameEnd s.decoder.beam [firstWord 0x02 low]) untagged s
  | .drawing =>
    let s := countOpenTags s
    let s := s.setDecoder { s.decoder with phase := .overlay, inHand := some (.frameEnd low) }
    issueHeldFrameEnd (s.setOverlay { s.overlay with emission := beginEmission s })
  | _ => s

/-- R5, R10, R16: MOVE. -/
def takeMove (x y : BitVec 12) (s : State) : State :=
  let s := clearArmed s
  issue (moveItem s.banks.params s.decoder.beam ⟨x.toNat, y.toNat⟩ [firstWord 0x03 (x ++ y)])
    s.streamOrigin s

/-- R6, R10, R16: STROKE. -/
def takeStroke (low : Low) (point : Word) (s : State) : State :=
  let s := clearArmed s
  issue (strokeItem s.banks.params s.decoder.beam (pointOf point) (intensityOf low)
    [firstWord 0x04 low, point]) s.streamOrigin s

/-- R7, R10, R16: GLYPH RUN. -/
def takeGlyphRun (low : Low) (codes : List Word) (s : State) : State :=
  let s := clearArmed s
  issue (glyphItem s.banks.params s.decoder.beam (glyphSize low) (glyphCount low)
    (firstWord 0x05 low :: codes)) s.streamOrigin s

/-- R8, R10, R16: an opaque item. -/
def takeOpaque (kind : BitVec 8) (low : Low) (rest : List Word) (s : State) : State :=
  let s := clearArmed s
  issue (flatItem .opaqueItem s.decoder.beam (firstWord kind low :: rest)) s.streamOrigin s

/-- R23: what a TAG OPEN does to the stack. -/
def TagStack.openTag (t : TagStack) (entity layer : Nat) : TagStack :=
  if entity = 0 ∨ 63 < layer then t
  else if t.records.length < Config.tagDepth then
    { t with records := t.records ++ [⟨entity, layer⟩] }
  else if t.overflow < 255 then { t with overflow := t.overflow + 1 }
  else t

/-- R23: the tag fault of a TAG OPEN: one unless a record was appended. -/
def openFaults (t : TagStack) (entity layer : Nat) : Nat :=
  if entity = 0 ∨ 63 < layer then 1
  else if t.records.length < Config.tagDepth then 0
  else 1

/-- R24: what a TAG CLOSE does to the stack. -/
def TagStack.closeTag (t : TagStack) : TagStack :=
  if 0 < t.overflow then { t with overflow := t.overflow - 1 }
  else { t with records := t.records.dropLast }

/-- R24: the tag fault of a TAG CLOSE with nothing to close. -/
def closeFaults (t : TagStack) : Nat :=
  if t.overflow = 0 ∧ t.records = [] then 1 else 0

/-- R1, R23: TAG OPEN: to the Tag Stack in DRAWING; discarded in IDLE, with no fault counted. -/
def takeTagOpen (layer : BitVec 8) (entity : BitVec 16) (s : State) : State :=
  let s := clearArmed s
  if s.decoder.phase = .drawing then
    tagFaults (openFaults s.tags entity.toNat layer.toNat)
      (s.setTags (s.tags.openTag entity.toNat layer.toNat))
  else s

/-- R1, R24: TAG CLOSE: to the Tag Stack in DRAWING; discarded in IDLE, with no fault counted. -/
def takeTagClose (s : State) : State :=
  let s := clearArmed s
  if s.decoder.phase = .drawing then tagFaults (closeFaults s.tags) (s.setTags s.tags.closeTag)
  else s

end Sys2Proof.Machine
end

