-- ==== Sys2Proof/Machine/Port.lean ====
section
/-! DEFINITION. The stream port (1.1, 1.6): the stall causes of R20, the taking of an item, and the line
of items held at the port, which are taken in order once no cause holds the item at the head. -/

namespace Sys2Proof.Machine

/-- R20: the causes that hold the stream port. -/
inductive StallCause where
  | windowFull | overlayEmission | frameBoundary | unclosedClose | queueFull | resetDrain | resetLine
  deriving DecidableEq, Repr

/-- R17: the Decoder would issue this item in the present phase. -/
def wouldIssue (i : Instr) (s : State) : Bool :=
  match s.decoder.phase, i with
  | .drawing, .frameStart _ _ => false
  | .drawing, .frameEnd _ => false
  | .drawing, i => i.isForwarded
  | .idle, i => i.isForwarded
  | _, _ => false

/-- R20: the stall causes in force for an item at the head of the port. -/
def stallCauses (i : Instr) (s : State) : List StallCause :=
  (if wouldIssue i s && !s.windowOpen then [.windowFull] else []) ++
  (if s.decoder.phase == .overlay && !i.isOrder then [.overlayEmission] else []) ++
  (if s.decoder.phase == .closing && !i.isOrder then [.frameBoundary] else []) ++
  (if s.decoder.phase == .unclosing then [.unclosedClose] else []) ++
  (if i.isOrder && Config.queue ≤ s.lane.queue.length then [.queueFull] else []) ++
  (if s.orders.inHand.isSome then [.resetDrain] else []) ++
  (if s.resetLow then [.resetLine] else [])

/-- R1: the taking of an item at the head of the port. (Nothing but stream items stands there.) -/
def take (i : Instr) (s : State) : State :=
  match i with
  | .frameStart low _ => takeFrameStart low s
  | .frameEnd low => takeFrameEnd low s
  | .move x y => takeMove x y s
  | .stroke low point => takeStroke low point s
  | .glyphRun low codes => takeGlyphRun low codes s
  | .opaqueItem kind low rest => takeOpaque kind low rest s
  | .tagOpen layer entity => takeTagOpen layer entity s
  | .tagClose => takeTagClose s
  | .setParameter tag f => takeSetParameter tag f s
  | .setModes tag f => takeSetModes tag f s
  | .layerSet tag f => takeLayerSet tag f s
  | .buttonSet tag f => takeButtonSet tag f s
  | .loadOpen tag f => takeLoadOpen tag f s
  | .loadSegment tag f => takeLoadSegment tag f s
  | .loadClose tag f => takeLoadClose tag f s
  | .loadAbort tag f => takeLoadAbort tag f s
  | .placeCross tag f => takePlaceCross tag f s
  | .suspendDrag tag f => takeSuspendDrag tag f s
  | .resumeDrag tag f => takeResumeDrag tag f s
  | .cancelDrag tag f => takeCancelDrag tag f s
  | .clearFault tag f => takeClearFault tag f s
  | .mark tag f => takeMark tag f s
  | .status tag f => takeStatus tag f s
  | .describe tag f => takeDescribe tag f s
  | .resetEnable tag f => takeResetEnable tag f s
  | .reset tag f => takeReset tag f s
  | .unknownOrder code tag f => takeUnknownOrder code tag f s
  | .frameEndIssue | .generatedFrameEndIssue | .overlayItemIssue | .completionNotice _ _
  | .hitNotice _ _ | .unknownNotice _ | .syncArrival | .resetLineAssert | .resetLineRelease _
  | .reportStart _ | .reportEnd | .inBandResetPerformed _ | .beamPortWordSent => s

/-- R20: take the given items in order until one is held; that one and those behind it wait. -/
def drain (line : List Instr) (s : State) : State :=
  match line with
  | [] => s.setPortLine []
  | i :: rest => if stallCauses i s = [] then drain rest (take i s) else s.setPortLine (i :: rest)

/-- Take what can be taken of the items held at the port. -/
def drainPort (s : State) : State := drain s.portLine s

/-- An item presented at the stream port: it stands behind the items held there. While the reset line is
low it waits with everything else that arrives (R21). -/
def present (i : Instr) (s : State) : State :=
  if s.resetLow then s.setLowArrivals (s.lowArrivals ++ [i])
  else drain (s.portLine ++ [i]) s

/-- Present an item if its words are those of an item (R2). -/
def presented (i : Instr) (s : State) : Host.Outcome State Fault Refusal :=
  if i.wellFormed then .next (present i s) else .refused .illFormed

end Sys2Proof.Machine
end

