-- ==== Sys2Proof/Machine/ExecOrders.lean ====
section
/-! DEFINITION. The meanings of the orders: each is an ORDER item presented at the stream port (R156); its
taking is its `take…` of `Orders.lean`. -/

namespace Sys2Proof.Machine

/-- SET PARAMETER (R160). -/
def execSetParameter (tag : BitVec 8) (f : List Word) (s : State) : Host.Outcome State Fault Refusal :=
  presented (.setParameter tag f) s

/-- SET MODES (R161). -/
def execSetModes (tag : BitVec 8) (f : List Word) (s : State) : Host.Outcome State Fault Refusal :=
  presented (.setModes tag f) s

/-- LAYER SET (R150). -/
def execLayerSet (tag : BitVec 8) (f : List Word) (s : State) : Host.Outcome State Fault Refusal :=
  presented (.layerSet tag f) s

/-- BUTTON SET (R136, R137). -/
def execButtonSet (tag : BitVec 8) (f : List Word) (s : State) : Host.Outcome State Fault Refusal :=
  presented (.buttonSet tag f) s

/-- LOAD OPEN (R142). -/
def execLoadOpen (tag : BitVec 8) (f : List Word) (s : State) : Host.Outcome State Fault Refusal :=
  presented (.loadOpen tag f) s

/-- LOAD SEGMENT (R143, R144). -/
def execLoadSegment (tag : BitVec 8) (f : List Word) (s : State) : Host.Outcome State Fault Refusal :=
  presented (.loadSegment tag f) s

/-- LOAD CLOSE (R145, R146). -/
def execLoadClose (tag : BitVec 8) (f : List Word) (s : State) : Host.Outcome State Fault Refusal :=
  presented (.loadClose tag f) s

/-- LOAD ABORT (R147). -/
def execLoadAbort (tag : BitVec 8) (f : List Word) (s : State) : Host.Outcome State Fault Refusal :=
  presented (.loadAbort tag f) s

/-- PLACE CROSS (R109). -/
def execPlaceCross (tag : BitVec 8) (f : List Word) (s : State) : Host.Outcome State Fault Refusal :=
  presented (.placeCross tag f) s

/-- SUSPEND DRAG (R116). -/
def execSuspendDrag (tag : BitVec 8) (f : List Word) (s : State) : Host.Outcome State Fault Refusal :=
  presented (.suspendDrag tag f) s

/-- RESUME DRAG (R118). -/
def execResumeDrag (tag : BitVec 8) (f : List Word) (s : State) : Host.Outcome State Fault Refusal :=
  presented (.resumeDrag tag f) s

/-- CANCEL DRAG (R119). -/
def execCancelDrag (tag : BitVec 8) (f : List Word) (s : State) : Host.Outcome State Fault Refusal :=
  presented (.cancelDrag tag f) s

/-- CLEAR FAULT (R130). -/
def execClearFault (tag : BitVec 8) (f : List Word) (s : State) : Host.Outcome State Fault Refusal :=
  presented (.clearFault tag f) s

/-- MARK (R162). -/
def execMark (tag : BitVec 8) (f : List Word) (s : State) : Host.Outcome State Fault Refusal :=
  presented (.mark tag f) s

/-- STATUS (R163). -/
def execStatus (tag : BitVec 8) (f : List Word) (s : State) : Host.Outcome State Fault Refusal :=
  presented (.status tag f) s

/-- DESCRIBE (R164). -/
def execDescribe (tag : BitVec 8) (f : List Word) (s : State) : Host.Outcome State Fault Refusal :=
  presented (.describe tag f) s

/-- RESET ENABLE (R165). -/
def execResetEnable (tag : BitVec 8) (f : List Word) (s : State) : Host.Outcome State Fault Refusal :=
  presented (.resetEnable tag f) s

/-- RESET (R166, R168). -/
def execReset (tag : BitVec 8) (f : List Word) (s : State) : Host.Outcome State Fault Refusal :=
  presented (.reset tag f) s

/-- An ORDER of an unknown code (R159). -/
def execUnknownOrder (code tag : BitVec 8) (f : List Word) (s : State) :
    Host.Outcome State Fault Refusal :=
  presented (.unknownOrder code tag f) s

end Sys2Proof.Machine
end

