-- ==== Sys2Proof/Machine/ExecStream.lean ====
section
/-! DEFINITION. The meanings of the stream items that are not orders: each is presented at the stream
port, where it is taken at once, or held until its stall causes are gone (R20). -/

namespace Sys2Proof.Machine

/-- FRAME START (R9, R14), with the pen lines as they stand at its arrival. -/
def execFrameStart (low : Low) (pins : Pins) (s : State) : Host.Outcome State Fault Refusal :=
  presented (.frameStart low pins) (s.setPins pins)

/-- FRAME END (R10, R16). -/
def execFrameEnd (low : Low) (s : State) : Host.Outcome State Fault Refusal :=
  presented (.frameEnd low) s

/-- MOVE (R5). -/
def execMove (x y : BitVec 12) (s : State) : Host.Outcome State Fault Refusal :=
  presented (.move x y) s

/-- STROKE (R6). -/
def execStroke (low : Low) (point : Word) (s : State) : Host.Outcome State Fault Refusal :=
  presented (.stroke low point) s

/-- GLYPH RUN (R7). -/
def execGlyphRun (low : Low) (codes : List Word) (s : State) : Host.Outcome State Fault Refusal :=
  presented (.glyphRun low codes) s

/-- Opaque item (R8). -/
def execOpaqueItem (kind : BitVec 8) (low : Low) (rest : List Word) (s : State) :
    Host.Outcome State Fault Refusal :=
  presented (.opaqueItem kind low rest) s

/-- TAG OPEN (R23). -/
def execTagOpen (layer : BitVec 8) (entity : BitVec 16) (s : State) :
    Host.Outcome State Fault Refusal :=
  presented (.tagOpen layer entity) s

/-- TAG CLOSE (R24). -/
def execTagClose (s : State) : Host.Outcome State Fault Refusal := presented .tagClose s

end Sys2Proof.Machine
end

