-- ==== Sys2Proof/Machine/Reports.lean ====
section
/-! DEFINITION. The words of every report (Chapter 11, Reports and REPLY payloads). Bits no table assigns
are sent as 0 (R177). -/

namespace Sys2Proof.Machine

/-- What the y field of a point word carries: y, where the field's twelve bits hold it. For a glyph cell
centre above the screen (R33) the manual does not say, and it is a free value (log entry 16). -/
def pointY (p : Point) : Nat := if p.y ≤ 4095 then p.y else (Config.tallPointY p.x p.y).toNat

/-- A point word: x in 28..16, y in 11..0. -/
def pointWord (p : Point) : Word := BitVec.ofNat 32 (put p.x 28 16 + put (pointY p) 11 0)

/-- A displacement word: dx, signed, in 31..16 and dy, signed, in 15..0. -/
def dispWord (d : Disp) : Word := BitVec.ofInt 16 d.dx ++ BitVec.ofInt 16 d.dy

/-- An entity path, two entities a word, an odd last position 0. -/
def pathWords : List Nat → List Word
  | [] => []
  | [a] => [BitVec.ofNat 32 (put a 31 16)]
  | a :: b :: rest => BitVec.ofNat 32 (put a 31 16 + put b 15 0) :: pathWords rest

/-- Pen state codes. -/
def penStateCode : PenState → Nat
  | .stowed => 0 | .lifted => 1 | .seen => 2 | .tracking => 3

/-- Status codes. -/
def statusCode : Status → Nat
  | .accepted => 0 | .adjusted => 1 | .refused _ => 2 | .wait => 3 | .ignored => 4 | .collided => 5

/-- Reason codes, 1..13; 0 unless the status is REFUSED. -/
def reasonCode : Status → Nat
  | .refused .unknownOrder => 1 | .refused .badField => 2 | .refused .range => 3
  | .refused .sessionOpen => 4 | .refused .noSession => 5 | .refused .incomplete => 6
  | .refused .checksum => 7 | .refused .conflict => 8 | .refused .faultActive => 9
  | .refused .staleSerial => 10 | .refused .notArmed => 11 | .refused .penStowed => 12
  | .refused .dragActive => 13
  | _ => 0

/-- Session state codes of STATUS. -/
def sessionCode : SessionState → Nat
  | .none => 0 | .opened => 1 | .swapPending => 2

/-- Drag outcome codes. -/
def outcomeCode : DragOutcome → Nat
  | .released => 0 | .lost => 1 | .stowed => 2 | .cancelled => 3

/-- TRACK ACQUIRED cause codes. -/
def causeCode : AcquireCause → Nat
  | .sighted => 0 | .placed => 1

/-- PEN EVENT kind codes. -/
def penEventCode : PenEventKind → Nat
  | .stowed => 0 | .lifted => 1 | .tipInHolder => 2

/-- R164: the six capacity headers, in order. -/
def capacities : List Nat :=
  [Config.layers, Config.buttons, Config.trail, Config.hitSet, Config.queue, Config.window]

/-- R164: the payload words of DESCRIBE: "Z740", version 1.0 with 6 headers, the headers. -/
def describeWords : List Word :=
  0x5A373430 :: BitVec.ofNat 32 (put 1 31 24 + put 0 23 16 + put 6 7 0)
    :: capacities.zipIdx.map (fun c => BitVec.ofNat 32 (put (c.2 + 1) 31 24 + put c.1 15 0))

/-- R163: the two payload words of STATUS. -/
def statusWords (d : StatusData) : List Word :=
  [ BitVec.ofNat 32 (putFlag d.armed 31 + put (sessionCode d.menuSession) 27 26
      + put (sessionCode d.layerSession) 25 24 + put d.serial 23 16 + putFlag d.faultActive 9
      + putFlag d.overlayEnable 8 + putFlag d.releasePending 6 + putFlag d.suspended 5
      + putFlag d.dragActive 4 + putFlag (d.tip == .down) 3 + putFlag (d.holder == .outside) 2
      + put (penStateCode d.penState) 1 0),
    BitVec.ofNat 32 (put d.outstanding 28 24 + put d.occupancy 21 17 + putFlag d.frameOpen 16
      + put d.frame 15 0) ]

/-- The payload words of a REPLY. -/
def payloadWords : Payload → List Word
  | .absent => []
  | .param n v => [BitVec.ofNat 32 (put (paramCode n) 31 16 + put v 15 0)]
  | .mark v => [BitVec.ofNat 32 (put v 15 0)]
  | .status d => statusWords d
  | .describe => describeWords

/-- The twelve counters in the order of a FRAME SUMMARY. -/
def counterList (c : Counters) : List Nat :=
  [c.notices, c.sightings, c.list, c.cross, c.menu, c.snapped, c.dark, c.stale, c.ignored,
   c.merged, c.displaced, c.tagFaults]

/-- The report kind code. -/
def reportCode : Report → Nat
  | .reply .. => 0x01 | .pick .. => 0x02 | .menu .. => 0x03 | .hover .. => 0x04
  | .dragStart .. => 0x05 | .dragEnd .. => 0x06 | .trackAcquired .. => 0x07 | .trackLost .. => 0x08
  | .penEvent .. => 0x09 | .faultOverlay .. => 0x0A | .faultLink .. => 0x0A
  | .faultUnclosed .. => 0x0A | .frameSummary .. => 0x0B | .overflow .. => 0x0C
  | .trackPosition .. => 0x0D | .dragMove .. => 0x0E

/-- The frame number a report carries. -/
def reportFrame : Report → Nat
  | .reply _ _ f _ _ _ | .pick f _ | .menu f _ _ _ | .hover f _ | .dragStart f _
  | .dragEnd f _ _ _ | .trackAcquired f _ _ | .trackLost f _ | .penEvent f _ _ _ _
  | .faultOverlay f _ _ | .faultLink f _ | .faultUnclosed f | .frameSummary f _ _ | .overflow f _
  | .trackPosition f _ _ | .dragMove f _ _ _ => f

/-- The words of a report after word 0. -/
def reportBody : Report → List Word
  | .reply tag code _ isOpen st payload =>
      BitVec.ofNat 32 (put tag.toNat 31 24 + put code.toNat 23 16 + putFlag isOpen 15
        + put (statusCode st) 11 8 + put (reasonCode st) 4 0) :: payloadWords payload
  | .pick _ none => [0, 0]
  | .pick _ (some d) =>
      BitVec.ofNat 32 (putFlag true 31 + putFlag d.snapped 30 + putFlag d.dragRequested 29
        + putFlag true 28 + put d.path.length 23 20 + put d.hits 15 8 + put d.layer 5 0)
        :: pointWord d.point :: pathWords d.path
  | .menu _ index code latched =>
      [BitVec.ofNat 32 (put index 20 16 + put code 15 8 + putFlag latched 0)]
  | .hover _ path => BitVec.ofNat 32 (put path.length 3 0) :: pathWords path
  | .dragStart _ origin => [pointWord origin]
  | .dragEnd _ outcome centre d =>
      [BitVec.ofNat 32 (put (outcomeCode outcome) 1 0), pointWord centre, dispWord d]
  | .trackAcquired _ cause centre =>
      [BitVec.ofNat 32 (put (causeCode cause) 0 0), pointWord centre]
  | .trackLost _ centre => [pointWord centre]
  | .penEvent _ kind holder tip state =>
      [BitVec.ofNat 32 (put (penStateCode state) 9 8 + putFlag (tip == .down) 5
        + putFlag (holder == .outside) 4 + put (penEventCode kind) 1 0)]
  | .faultOverlay _ serial dropped =>
      [BitVec.ofNat 32 (put 0 25 24 + put serial 23 16 + put dropped 7 0)]
  | .faultLink _ (.notOutstanding seq) => [BitVec.ofNat 32 (put 1 25 24 + put 0 8 8 + put seq 7 0)]
  | .faultLink _ .unknownNotice => [BitVec.ofNat 32 (put 1 25 24 + put 1 8 8)]
  | .faultUnclosed _ => [BitVec.ofNat 32 (put 2 25 24)]
  | .frameSummary _ unclosed c =>
      BitVec.ofNat 32 (putFlag unclosed 0) :: pathWords (counterList c)
  | .overflow _ lost => [BitVec.ofNat 32 (put lost 15 0)]
  | .trackPosition _ centre n => [pointWord centre, BitVec.ofNat 32 (put n 7 0)]
  | .dragMove _ centre d n => [pointWord centre, dispWord d, BitVec.ofNat 32 (put n 7 0)]

/-- The words of a report: word 0 holds the kind, the number of words that follow and the frame. -/
def reportWords (r : Report) : List Word :=
  BitVec.ofNat 32 (put (reportCode r) 31 24 + put (reportBody r).length 23 16
    + put (reportFrame r) 15 0) :: reportBody r

end Sys2Proof.Machine
end

