-- ==== Sys2Proof/Machine/Lane.lean ====
section
/-! DEFINITION. The words that pass at the output ports: the arbitration of the return lane and the freeing
of queue places (R172 to R175), and the beam port (R3). -/

namespace Sys2Proof.Machine

/-- What the arbiter sends next (R172). -/
inductive LaneChoice where
  | track (r : TrackSlot)
  | drag (r : DragSlot)
  | queued (r : Report) (rest : List Report)
  | nothing
  deriving DecidableEq, Repr

/-- R172: the first that applies decides. -/
def ReturnLane.choose (l : ReturnLane) : LaneChoice :=
  match (if l.owedTrack then l.trackSlot else none), (if l.owedDrag then l.dragSlot else none),
      l.queue, l.trackSlot, l.dragSlot with
  | some t, _, _, _, _ => .track t
  | none, some d, _, _, _ => .drag d
  | none, none, r :: rest, _, _ => .queued r rest
  | none, none, [], some t, _ => .track t
  | none, none, [], none, some d => .drag d
  | none, none, [], none, none => .nothing

/-- The report of a full TRACK POSITION slot. -/
def trackReport (t : TrackSlot) : Report := .trackPosition t.frame t.centre t.coalesced

/-- The report of a full DRAG MOVE slot. -/
def dragReport (d : DragSlot) : Report := .dragMove d.frame d.centre d.disp d.coalesced

/-- R174: an ORDER is held at the head of the port by the report-queue-full cause alone. -/
def State.orderHeldByQueue (s : State) : Bool :=
  match s.portLine with
  | i :: _ => i.isOrder && stallCauses i s == [.queueFull]
  | [] => false

/-- R175: the OVERFLOW report at a freeing with reports lost. -/
def queueOverflow (s : State) : State :=
  if 0 < s.lane.lost then
    let l := s.lane.enqueue (.overflow s.decoder.frame s.lane.lost)
    s.setLane { l with lost := 0 }
  else s

/-- R172 to R175: the first word of a report passes. A queued report frees its place, and unless an ORDER
held by the full queue alone waits for it, an OVERFLOW is queued if reports were lost. -/
def passFirstWord (s : State) : State :=
  match s.lane.choose with
  | .track t =>
    s.setLane { s.lane with trackSlot := none, owedTrack := false, lane := .sending (trackReport t) }
  | .drag d =>
    s.setLane { s.lane with dragSlot := none, owedDrag := false, lane := .sending (dragReport d) }
  | .queued r rest =>
    let freed := s.setLane
      { s.lane with queue := rest, owedTrack := false, owedDrag := false, lane := .sending r }
    if s.orderHeldByQueue then freed else queueOverflow freed
  | .nothing => s

/-- R172 to R175: a report starts; if it frees a place of the queue, the items held at the stream port are
taken as their causes allow, an ORDER held by the full queue alone first (R174). -/
def reportStarts (s : State) : State :=
  match s.lane.choose with
  | .queued _ _ => drainPort (passFirstWord s)
  | _ => passFirstWord s

/-- The list processor asserts ready with the lane IDLE (R172): the arbiter's report starts; nothing while
a report is passing, with nothing to send, or with the reset line low. -/
def execReportStart (pins : Pins) (s : State) : Host.Outcome State Fault Refusal :=
  let s := s.setPins pins
  .next (if s.lane.lane = .idle ∧ s.resetLow = false then reportStarts s else s)

/-- The report waits in a latest-value slot, not in the queue (10.1). -/
def slotReport : Report → Bool
  | .trackPosition .. | .dragMove .. => true
  | _ => false

/-- The last word of a report passes (R172, R173): the lane is IDLE, and after a queued report both slots
are owed a turn. -/
def execReportEnd (s : State) : Host.Outcome State Fault Refusal :=
  .next (match s.lane.lane with
    | .idle => s
    | .sending r =>
      if s.resetLow then s
      else if slotReport r then s.setLane { s.lane with lane := .idle }
      else s.setLane { s.lane with lane := .idle, owedTrack := true, owedDrag := true })

/-- The oldest word of the beam-port backlog passes to the deflection unit (R3); nothing with an empty
backlog or with the reset line low (R21). -/
def execBeamPortWordSent (s : State) : Host.Outcome State Fault Refusal :=
  .next (if s.resetLow then s
    else s.setDecoder { s.decoder with backlog := s.decoder.backlog.tail })

end Sys2Proof.Machine
end

