-- ==== Sys2Proof/Machine/HitSet.lean ====
section
/-! DEFINITION. The Hit Set (Chapter 4, 4.1 and 4.2): hit records, their two ranks, the reference
point, merging, placing and displacing. -/

namespace Sys2Proof.Machine

/-- The live layer table's entry of a layer (R140). -/
def layerEntry (t : LayerTable) (layer : Nat) : LayerEntry := (t[layer]?).getD .default

/-- R69: the frame's reference point: the centre in TRACKING, the first-sighting point otherwise. -/
def State.reference (s : State) : Option Point :=
  if s.pen.state = .tracking then some s.tracking.centre else s.corr.firstSighting

/-- The distance key of a record. With no reference point every distance is 0; R69 says that the
point is present whenever the set holds a record. -/
def refDistance (ref : Option Point) (p : Point) : Nat :=
  match ref with
  | some r => chebyshev p r
  | none => 0

/-- What a rank compares by: the layer table, the reference point, and whether hit counts are used
(R68: in the resolution rank, not in the insertion rank). -/
structure Ranking where
  table    : LayerTable
  ref      : Option Point
  useCount : Bool

/-- R68: `a` ranks strictly above `b`: the first key on which they differ decides. -/
def Ranking.above (r : Ranking) (a b : HitRecord) : Bool :=
  let pa := (layerEntry r.table a.layer).priority
  let pb := (layerEntry r.table b.layer).priority
  let da := refDistance r.ref a.point
  let db := refDistance r.ref b.point
  if pa ≠ pb then decide (pb < pa)
  else if da ≠ db then decide (da < db)
  else if r.useCount && a.hits != b.hits then decide (b.hits < a.hits)
  else if a.arrival ≠ b.arrival then decide (a.arrival < b.arrival)
  else decide (a.seq < b.seq)

/-- The record that ranks above every other, if there is a record. -/
def Ranking.winner (r : Ranking) : List HitRecord → Option HitRecord
  | [] => none
  | h :: t => some (t.foldl (fun best c => if r.above c best then c else best) h)

/-- The record that ranks below every other, if there is a record. -/
def Ranking.lowest (r : Ranking) : List HitRecord → Option HitRecord
  | [] => none
  | h :: t => some (t.foldl (fun worst c => if r.above worst c then c else worst) h)

/-- R68: the insertion rank of the open frame. -/
def State.insertionRank (s : State) : Ranking := ⟨s.banks.layersLive, s.reference, false⟩

/-- R68: the resolution rank of the open frame. -/
def State.resolutionRank (s : State) : Ranking := ⟨s.banks.layersLive, s.reference, true⟩

/-- R66: merge a hit into the record of its entry. -/
def mergeHit (seq : Nat) (rs : List HitRecord) : List HitRecord :=
  rs.map fun r => if r.seq = seq then { r with hits := bump8 r.hits } else r

/-- R66, R67: a list hit handed to the Hit Set is merged, placed, displaces the lowest record of a
full set, or is dropped. -/
def handOver (new : HitRecord) (s : State) : State :=
  if s.hitSet.any (fun r => r.seq == new.seq) then
    countWith (fun c => { c with merged := bump c.merged }) (s.setHitSet (mergeHit new.seq s.hitSet))
  else if s.hitSet.length < Config.hitSet then s.setHitSet (s.hitSet ++ [new])
  else
    match s.insertionRank.lowest s.hitSet with
    | none => s
    | some low =>
      let kept :=
        if s.insertionRank.above new low then
          s.hitSet.filter (fun r => r.seq != low.seq) ++ [new]
        else s.hitSet
      countWith (fun c => { c with displaced := bump c.displaced }) (s.setHitSet kept)

end Sys2Proof.Machine
end

