-- ==== Sys2Proof/Machine/Correlate.lean ====
section
/-! DEFINITION. Hit correlation (Chapter 3): walk-back by the lag, landing points, snapping, and the
attribution of a hit by the origin of its entry. -/

namespace Sys2Proof.Machine

/-! ## Walk-back (R45 to R48) -/

/-- A landing (R46): the entry, the offset in it, the entries before it (newest first), and the
entries after it up to and including the named entry (oldest first). -/
structure Landing where
  entry  : Entry
  offset : Nat
  older  : List Entry
  newer  : List Entry
  deriving DecidableEq, Repr

/-- R46, items 3 to 6, and R47: step back from `cur` with `r` steps still to walk, `r` above 0.
`none` is a stale hit: no entry to step to. -/
def stepBack (r : Nat) (cur : Entry) (newer : List Entry) : List Entry → Option Landing
  | [] => none
  | j :: older =>
    if cur.kind = .frameStart then none
    else if r ≤ j.length then some ⟨j, j.length - r, older, cur :: newer⟩
    else stepBack (r - j.length) j (cur :: newer) older

/-- R45, R46: the landing of a hit named on `h` at elapsed count `e`, `older` being the entries before
`h`, newest first. -/
def landing (lag e : Nat) (h : Entry) (older : List Entry) : Option Landing :=
  let p := min e h.length
  if lag ≤ p then some ⟨h, p - lag, older, []⟩ else stepBack (lag - p) h [] older

/-! ## Points (R49 to R51, R53, R54) -/

/-- R49: one coordinate at offset `q` along a stroke of length `l`, rounded with a half away from the
start. -/
def alongAxis (a b q l : Nat) : Nat :=
  let k := (2 * absDiff a b * q + l) / (2 * l)
  if a ≤ b then a + k else a - k

/-- R33, R51: the centre of cell `k` of a run of size `size` from `start`. -/
def cellCentre (start : Point) (size k : Nat) : Point :=
  ⟨start.x + 8 * size * k + 4 * size, start.y + 6 * size⟩

/-- R49 to R51: the point of a landing at offset `q` in a lit entry. -/
def landingPoint (e : Entry) (q : Nat) : Point :=
  match e.glyph with
  | some g => cellCentre e.start g.size (min (q / (e.length / g.count)) (g.count - 1))
  | none =>
    if e.start = e.stop then e.start
    else
      let l := chebyshev e.start e.stop
      ⟨alongAxis e.start.x e.stop.x q l, alongAxis e.start.y e.stop.y q l⟩

/-- R53: the snap point of a backward candidate: its last lit point. -/
def lastPoint (e : Entry) : Point :=
  match e.glyph with
  | some g => cellCentre e.start g.size (g.count - 1)
  | none => e.stop

/-- R54: the snap point of a forward candidate: its first lit point. -/
def firstPoint (e : Entry) : Point :=
  match e.glyph with
  | some g => cellCentre e.start g.size 0
  | none => e.start

/-! ## Snapping (R53 to R55) -/

/-- A candidate for a snap: the lit entry, its snap point and its distance. -/
structure Candidate where
  entry    : Entry
  point    : Point
  distance : Nat
  deriving DecidableEq, Repr

/-- R53: the backward candidate, from `cur` at distance `d`, over the entries before it. -/
def backward (d : Nat) (cur : Entry) : List Entry → Option Candidate
  | [] => none
  | j :: older =>
    if cur.kind = .frameStart then none
    else if j.lit then some ⟨j, lastPoint j, d⟩
    else backward (d + j.length) j older

/-- R54: the forward candidate at distance `d`, over the entries after the landing up to the named
one. -/
def forward (d : Nat) : List Entry → Option Candidate
  | [] => none
  | j :: newer => if j.lit then some ⟨j, firstPoint j, d⟩ else forward (d + j.length) newer

/-- R55: the candidate a dark landing chooses, before the SNAP test; a tie goes backward. -/
def chooseCandidate (b f : Option Candidate) : Option Candidate :=
  match b, f with
  | some b, some f => if f.distance < b.distance then some f else some b
  | some b, none => some b
  | none, f => f

/-- R53 to R55: the candidate a dark landing chooses. -/
def Landing.candidate (l : Landing) : Option Candidate :=
  chooseCandidate (backward l.offset l.entry l.older)
    (forward (l.entry.length - l.offset) l.newer)

/-- A hit after walk-back and snapping: stale, dark, or attributed to an entry at a point. -/
inductive Sight where
  | stale
  | dark
  | seen (entry : Entry) (point : Point) (snapped : Bool)
  deriving DecidableEq, Repr

/-- R52, R55: what a landing comes to. -/
def resolveLanding (snap : Nat) (l : Landing) : Sight :=
  if l.entry.lit then .seen l.entry (landingPoint l.entry l.offset) false
  else
    match l.candidate with
    | none => .dark
    | some c => if c.distance ≤ snap then .seen c.entry c.point true else .dark

/-- R45 to R55: a valid hit on the entry at place `i` of the Trail, at elapsed count `e`. -/
def correlate (p : PerParam Nat) (t : Trail) (i : Nat) (h : Entry) (e : Nat) : Sight :=
  match landing p.lag e h ((t.entries.take i).reverse) with
  | none => .stale
  | some l => resolveLanding p.snap l

/-! ## Attribution (R56 to R61) -/

/-- R57: a coordinate taken into a cross accumulator. -/
def Accumulator.take (a : Accumulator) (v : Nat) : Accumulator :=
  match a.span with
  | some sp =>
    if a.count = 0 then ⟨bump a.count, some ⟨v, v⟩⟩
    else ⟨bump a.count, some ⟨min sp.least v, max sp.greatest v⟩⟩
  | none => ⟨bump a.count, some ⟨v, v⟩⟩

/-- R57: the arm's accumulator takes the coordinate along the arm's axis. -/
def PerArm.take (p : PerArm Accumulator) (arm : Arm) (pt : Point) : PerArm Accumulator :=
  match arm with
  | .e => { p with e := p.e.take pt.x }
  | .n => { p with n := p.n.take pt.y }
  | .w => { p with w := p.w.take pt.x }
  | .s => { p with s := p.s.take pt.y }

/-- R61: a sighting: counted, and the first of the frame fixes the first-sighting point. -/
def sighting (p : Point) (s : State) : State :=
  let c := s.corr
  s.setCorr { c with
    counters := { c.counters with sightings := bump c.counters.sightings },
    firstSighting := c.firstSighting.or (some p) }

/-- R57. -/
def crossHit (arm : Arm) (p : Point) (s : State) : State :=
  let s := countWith (fun c => { c with cross := bump c.cross }) (sighting p s)
  s.setCorr { s.corr with arms := s.corr.arms.take arm p }

/-- The frame's menu count of a button index. -/
def menuCount (c : Correlator) (index : Nat) : Nat := (c.menu[index]?).getD 0

/-- R58. -/
def menuHit (index : Nat) (enabled : Bool) (s : State) : State :=
  let s := countWith (fun c => { c with menu := bump c.menu }) s
  if enabled then
    s.setCorr { s.corr with
      menu := s.corr.menu.setIfInBounds index (bump (menuCount s.corr index)) }
  else countWith (fun c => { c with ignored := bump c.ignored }) s

/-- R59: the live menu table has a band and the point lies in it. -/
def State.inBand (s : State) (p : Point) : Bool :=
  match s.banks.menuLive.band with
  | some b => b.contains p
  | none => false

/-- R59: an ignored list hit. -/
def ignoreHit (s : State) : State := countWith (fun c => { c with ignored := bump c.ignored }) s

/-- R60: the record handed over, with the new arrival number. -/
def recordOf (e : Entry) (path : List Nat) (layer : Nat) (p : Point) (snapped : Bool)
    (arrival : Nat) : HitRecord :=
  { seq := e.seq, path := path, layer := layer, point := p, snapped := snapped, hits := 1,
    arrival := arrival }

/-- R59, R60: a list hit: counted, filtered by tag, layer and band, and handed to the Hit Set. -/
def listHit (e : Entry) (path : List Nat) (layer : Option Nat) (p : Point) (snapped : Bool)
    (s : State) : State :=
  let s := countWith (fun c => { c with list := bump c.list }) (sighting p s)
  match path, layer with
  | [], _ => ignoreHit s
  | _, none => ignoreHit s
  | _ :: _, some l =>
    if !(layerEntry s.banks.layersLive l).pickable then ignoreHit s
    else if s.inBand p then ignoreHit s
    else
      let n := bump s.corr.arrivals
      handOver (recordOf e path l p snapped n) (s.setCorr { s.corr with arrivals := n })

/-- R56: classify an attributed hit by the origin of its entry; a snapped hit is counted first. -/
def attributeHit (e : Entry) (p : Point) (snapped : Bool) (s : State) : State :=
  let s := if snapped then countWith (fun c => { c with snapped := bump c.snapped }) s else s
  match e.origin with
  | .cross arm => crossHit arm p s
  | .menu index _ enabled => menuHit index enabled s
  | .list path layer => listHit e path layer p snapped s

/-- R43, R47: a stale hit. -/
def staleHit (s : State) : State := countWith (fun c => { c with stale := bump c.stale }) s

/-- R62: the notices counter. -/
def countNotice (s : State) : State := countWith (fun c => { c with notices := bump c.notices }) s

/-- R43: a hit notice, by the first of the five tests that applies. -/
def hitEffect (seq elapsed : Nat) (s : State) : State :=
  if !s.frameOpen then s
  else
    match s.trail.named seq with
    | none => staleHit (countNotice s)
    | some (i, h) =>
      if h.frame = none then s
      else if h.completed then staleHit (countNotice s)
      else
        match correlate s.banks.params s.trail i h elapsed with
        | .stale => staleHit (countNotice s)
        | .dark => countWith (fun c => { c with dark := bump c.dark }) (countNotice s)
        | .seen e p snapped => attributeHit e p snapped (countNotice s)

end Sys2Proof.Machine
end

