-- ==== Sys2Proof/Machine/FrameClose.lean ====
section
/-! DEFINITION. The close of a frame: the Pick Resolver's judgement, hover and summary (R72 to R83, R134,
R135), the Pen Monitor's transitions (R93 to R98), the Tracking Unit's centre update (R106 to R108,
R114), the normal close (R13) and the unclosed close (R15). All three blocks read the frame's own
values (R73, R92, R106). -/

namespace Sys2Proof.Machine

/-! ## The Pick Resolver at a normal close -/

/-- R75: the button index with the largest menu count above 0, the lowest on ties, with the count. -/
def bestMenu (c : Correlator) : Option (Nat × Nat) :=
  (List.range 24).foldl
    (fun best i =>
      let n := menuCount c i
      match best with
      | none => if 0 < n then some (i, n) else none
      | some (_, m) => if m < n then some (i, n) else best)
    none

/-- R77: the radius gate. -/
def State.passesGate (s : State) (w : HitRecord) : Bool :=
  s.banks.params.radius == 0 || s.pen.state != .tracking ||
    chebyshev w.point s.tracking.centre ≤ s.banks.params.radius

/-- R68, R77: the winner by the resolution rank, if it passes the gate. -/
def State.gatedWinner (s : State) : Option HitRecord :=
  (s.resolutionRank.winner s.hitSet).filter s.passesGate

/-- R78: a pick of this record requests a drag. -/
def State.requestsDrag (s : State) (w : HitRecord) : Bool :=
  (layerEntry s.banks.layersLive w.layer).draggable && s.pen.state == .tracking

/-- R76: the record a list pick picks, if the four conditions hold. -/
def State.listPick (s : State) : Option HitRecord :=
  if s.banks.modes.pickOnPress && s.tracking.drag.isNone then s.gatedWinner else none

/-- What the judgement of a frame leaves. -/
structure Judgement where
  press   : PressWindow
  request : Bool
  menu    : MenuTable
  reports : List Report
  deriving DecidableEq, Repr

/-- R134, R135: the menu selection of index `i`: its action on the live table and its MENU report. -/
def menuSelection (s : State) (i : Nat) : Judgement :=
  let t := s.banks.menuLive
  match placeAt t i with
  | none => ⟨.closed, s.resolver.dragRequest, t, []⟩
  | some b =>
    let t' := menuAction t i b
    let latched := match placeAt t' i with
      | some c => c.latched
      | none => false
    ⟨.closed, s.resolver.dragRequest, t', [.menu s.decoder.frame i b.code latched]⟩

/-- R78, R79: the list pick of a record. -/
def pickRecord (s : State) (w : HitRecord) : Judgement :=
  let drag := s.requestsDrag w
  ⟨.closed, drag || s.resolver.dragRequest, s.banks.menuLive,
    [.pick s.decoder.frame (some ⟨w.point, w.layer, w.path, w.hits, w.snapped, drag⟩)]⟩

/-- R73, R74: the judgement of a frame: menu selection, list pick, end of window, or wait. -/
def judge (s : State) : Judgement :=
  match s.resolver.press with
  | .closed => ⟨.closed, s.resolver.dragRequest, s.banks.menuLive, []⟩
  | .opened k w =>
    match bestMenu s.corr, s.listPick with
    | some (i, _), _ => menuSelection s i
    | none, some r => pickRecord s r
    | none, none =>
      if k = w then
        ⟨.closed, s.resolver.dragRequest, s.banks.menuLive, [.pick s.decoder.frame none]⟩
      else ⟨.opened k w, s.resolver.dragRequest, s.banks.menuLive, []⟩

/-- R80: the last hover path after a normal close. -/
def hoverAtClose (s : State) : List Nat :=
  if s.banks.modes.hover ∧ s.pen.state = .tracking ∧ s.tracking.drag = none then
    match s.gatedWinner with
    | some w => w.path
    | none => []
  else s.resolver.lastHover

/-- R80: the HOVER report, if the path changed. -/
def hoverReports (s : State) : List Report :=
  if hoverAtClose s = s.resolver.lastHover then [] else [.hover s.decoder.frame (hoverAtClose s)]

/-- R82: the FRAME SUMMARY, with the SUMMARY mode on. -/
def summaryReports (s : State) (unclosed : Bool) : List Report :=
  if s.banks.modes.summary then [.frameSummary s.decoder.frame unclosed s.corr.counters] else []

/-! ## The Tracking Unit at a normal close -/

/-- R107: the hits of the two arms of one axis: the least of their least coordinates and the greatest
of their greatest, over the arms with counts above 0. -/
def axisSpan (a b : Accumulator) : Option Span :=
  let sa := if 0 < a.count then a.span else none
  let sb := if 0 < b.count then b.span else none
  match sa, sb with
  | some p, some q => some ⟨min p.least q.least, max p.greatest q.greatest⟩
  | some p, none => some p
  | none, q => q

/-- R107: a move limited to STEP LIMIT in magnitude. -/
def limitMove (limit : Nat) (m : Int) : Int :=
  if (limit : Int) < m then limit else if m < -(limit : Int) then -(limit : Int) else m

/-- R107: one axis of the arm update, before the clamp. -/
def axisUpdate (limit c : Nat) (span : Option Span) : Int :=
  match span with
  | none => c
  | some sp => c + limitMove limit (((sp.least + sp.greatest) / 2 : Nat) - (c : Int))

/-- R107: the arm update. -/
def armUpdate (p : PerParam Nat) (c : Point) (arms : PerArm Accumulator) : Point :=
  ⟨clampCoord p (axisUpdate p.stepLimit c.x (axisSpan arms.e arms.w)),
   clampCoord p (axisUpdate p.stepLimit c.y (axisSpan arms.n arms.s))⟩

/-- R106: the centre clamped to the first sighting, or left if there was none. -/
def sightedCentre (s : State) : Point :=
  match s.corr.firstSighting with
  | some p => clampPoint s.banks.params p
  | none => s.tracking.centre

/-- R106: the new centre of a normal close. -/
def closeCentre (s : State) : Point :=
  match s.pen.state with
  | .stowed => s.tracking.centre
  | .lifted => sightedCentre s
  | .seen =>
    if s.corr.hasCross then armUpdate s.banks.params s.tracking.centre s.corr.arms
    else sightedCentre s
  | .tracking =>
    if s.tracking.suspended then s.tracking.centre
    else if s.corr.hasCross then armUpdate s.banks.params s.tracking.centre s.corr.arms
    else s.tracking.centre

/-- R96, R114: a TRACKING frame without cross hits and without a suspended drag counts a loss that
reaches LOSS FRAMES. -/
def trackLost (s : State) : Bool :=
  s.pen.state == .tracking && !s.corr.hasCross && !s.tracking.suspended &&
    s.banks.params.lossFrames ≤ s.pen.loss + 1

/-- R114: the drag at a normal close. -/
def dragAtClose (s : State) : DragStep :=
  match s.tracking.drag with
  | none => ⟨none, []⟩
  | some d =>
    if trackLost s then
      ⟨none, [.dragEnd s.decoder.frame .lost s.tracking.centre
        (displacement s.tracking.centre d.origin)]⟩
    else ⟨some d, []⟩

/-- R108: the slot a change of the centre at a close fills, by the frame's drag record. -/
def fillAtClose (s : State) : SlotFill :=
  let c := closeCentre s
  if s.pen.state = .tracking ∧ c ≠ s.tracking.centre then
    match s.tracking.drag with
    | none => .track c
    | some d => if d.suspended then .none else .drag c (displacement c d.origin)
  else .none

/-! ## The Pen Monitor at a normal close -/

/-- What the Pen Monitor's close work leaves. -/
structure PenClose where
  pen     : Pen
  reports : List Report
  deriving DecidableEq, Repr

/-- R94, R95: a SEEN count reached `n` in a frame with a sighting. -/
def penSighted (s : State) (n : Nat) : PenClose :=
  if s.banks.params.seenFrames ≤ n then
    ⟨s.pen.placed, [.trackAcquired s.decoder.frame .sighted (closeCentre s)]⟩
  else ⟨{ s.pen with state := .seen, seen := n }, []⟩

/-- R93 to R97: the Pen Monitor's work at a normal close. -/
def penAtClose (s : State) : PenClose :=
  match s.pen.state with
  | .stowed => ⟨s.pen, []⟩
  | .lifted => if s.corr.hasSighting then penSighted s 1 else ⟨s.pen, []⟩
  | .seen =>
    if s.corr.hasSighting then penSighted s (s.pen.seen + 1)
    else ⟨{ s.pen with state := .lifted, seen := 0 }, []⟩
  | .tracking =>
    if s.corr.hasCross then ⟨{ s.pen with loss := 0 }, []⟩
    else if s.tracking.suspended then ⟨s.pen, []⟩
    else if trackLost s then
      ⟨{ s.pen with state := .lifted, seen := 0, loss := 0 },
        [.trackLost s.decoder.frame s.tracking.centre]⟩
    else ⟨{ s.pen with loss := s.pen.loss + 1 }, []⟩

/-! ## The two closes -/

/-- R13: the normal close. -/
def closeNormal (s : State) : State :=
  let j := judge s
  let p := penAtClose s
  let d := dragAtClose s
  let s1 := { s with
    decoder := { s.decoder with phase := .idle, linkFault := false },
    resolver := { press := j.press, lastHover := hoverAtClose s, dragRequest := j.request },
    banks := { s.banks with menuLive := j.menu },
    pen := p.pen,
    tracking := { s.tracking with centre := closeCentre s, drag := d.drag } }
  let s2 := enqueueBlocks
    [j.reports ++ hoverReports s ++ summaryReports s false, p.reports, d.reports] s1
  s2.setLane (s2.lane.fill s.decoder.frame (fillAtClose s))

/-- R72: the press window at an unclosed close. -/
def pressUnclosed : PressWindow → PressWindow
  | .closed => .closed
  | .opened k w => if k = w then .closed else .opened k w

/-- R72: the PICK MISS of an unclosed close. -/
def missUnclosed (frame : Nat) : PressWindow → List Report
  | .closed => []
  | .opened k w => if k = w then [.pick frame none] else []

/-- R15: the unclosed close, and the open of the next frame with the FRAME START in hand. Its reports
are the Resolver's (R83), then the FAULT UNCLOSED, then those of the open. -/
def closeUnclosed (s : State) : State :=
  let frame := s.decoder.frame
  let reports := missUnclosed frame s.resolver.press ++ summaryReports s true
    ++ [.faultUnclosed frame]
  let s1 := { s with
    decoder := { s.decoder with linkFault := false },
    resolver := { s.resolver with press := pressUnclosed s.resolver.press },
    hitSet := [], lane := s.lane.enqueueAll reports }
  match s.decoder.inHand with
  | some (.frameStart low) => openFrame low s1
  | _ => s1

/-- R13, R15, R18: the close of the frame whose FRAME END a completion has covered. -/
def closeFrame (s : State) : State :=
  match s.decoder.phase with
  | .closing => closeNormal s
  | .unclosing => closeUnclosed s
  | _ => s

/-- R18, R19: a completion notice naming sequence number `seq`, but for the drain of a RESET: the
entries it completes and the close it brings, or a LINK fault. -/
def completeEffect (seq : Nat) (s : State) : State :=
  match s.trail.named seq with
  | none => raiseLink (.notOutstanding seq) s
  | some (i, e) =>
    if e.completed then raiseLink (.notOutstanding seq) s
    else
      let closes := s.frameOpen && (s.trail.run i).any (fun e => e.closes s.decoder.frame)
      let s1 := s.setTrail (s.trail.complete i)
      if closes then closeFrame s1 else s1

end Sys2Proof.Machine
end

