-- ==== Sys2Proof/Machine/Notices.lean ====
section
/-! DEFINITION. The notices of the notice channel (1.5) and the internal steps that the window, the
emission and the drain wait for: FRAME END issues (R11, R14), overlay items (R127), and the in-band
reset (R168). -/

namespace Sys2Proof.Machine

/-- R168: the in-band reset of a drain that has ended in this event, unless an emission is in progress:
there the Generator's next issue may come first (R132), so it is left to the next event. -/
def endDrain (s : State) : State :=
  match s.orders.inHand with
  | some tag =>
    if s.drained && !s.overlay.emission.emitting then performInBandReset tag s else s
  | none => s

/-- The notice names an entry that is outstanding (R18). -/
def State.placeable (seq : Nat) (s : State) : Bool :=
  match s.trail.named seq with
  | some (_, e) => !e.completed
  | none => false

/-- R18, R19, R166 to R168: a completion notice taken: its effect, and the reset of a drain it ends. -/
def takeCompletion (seq : Nat) (s : State) : State :=
  if s.placeable seq then endDrain (completeEffect seq s) else completeEffect seq s

/-- A notice of the notice channel taken (section 1.5: a completion goes to the Trail, a hit to the Correlator,
any other raises a LINK fault). -/
def takeNotice (i : Instr) (s : State) : State :=
  match i with
  | .completionNotice seq _ => drainPort (takeCompletion seq.toNat s)
  | .hitNotice seq elapsed => hitEffect seq.toNat elapsed.toNat s
  | .unknownNotice _ => raiseLink .unknownNotice s
  | _ => s

/-- A notice offered: taken at once; held while the reset line is low (R21). -/
def notice (i : Instr) (s : State) : State :=
  if s.resetLow then s.setLowArrivals (s.lowArrivals ++ [i]) else takeNotice i s

/-- A completion notice (R18), with the pen lines as they stand at its arrival. -/
def execCompletionNotice (seq : BitVec 8) (pins : Pins) (s : State) :
    Host.Outcome State Fault Refusal :=
  .next (notice (.completionNotice seq pins) (s.setPins pins))

/-- A hit notice (R43). -/
def execHitNotice (seq : BitVec 8) (elapsed : BitVec 13) (s : State) :
    Host.Outcome State Fault Refusal :=
  .next (notice (.hitNotice seq elapsed) s)

/-- A notice of unknown kind (R19). -/
def execUnknownNotice (word : Word) (s : State) : Host.Outcome State Fault Refusal :=
  if (Instr.unknownNotice word).wellFormed then .next (notice (.unknownNotice word) s)
  else .refused .illFormed

/-- The list's FRAME END in hand is issued (R11); nothing if none waits or the window is full. -/
def execFrameEndIssue (s : State) : Host.Outcome State Fault Refusal := .next (issueHeldFrameEnd s)

/-- The Decoder's own FRAME END of an unclosed frame is issued (R14); nothing if none waits or the window
is full. -/
def execGeneratedFrameEndIssue (s : State) : Host.Outcome State Fault Refusal :=
  .next (issueGeneratedFrameEnd s)

/-- The Overlay Generator issues its next item (R127); nothing with no emission or a full window. -/
def execOverlayItemIssue (s : State) : Host.Outcome State Fault Refusal := .next (overlayIssue s)

/-- R168, R132: the in-band reset performed, if the drain of an armed RESET has brought the outstanding
count to 0; nothing otherwise. The item behind the RESET is then taken. -/
def execInBandResetPerformed (pins : Pins) (s : State) : Host.Outcome State Fault Refusal :=
  let s := s.setPins pins
  match s.orders.inHand with
  | some tag => .next (if s.drained then drainPort (performInBandReset tag s) else s)
  | none => .next s

end Sys2Proof.Machine
end

