-- ==== Sys2Proof/Machine/Lines.lean ====
section
/-! DEFINITION. The line events: sync (R128, R129) and the reset line (R21, R22). -/

namespace Sys2Proof.Machine

/-- A sync arrival (R128, R129): not observed while the reset line is low. -/
def execSyncArrival (s : State) : Host.Outcome State Fault Refusal :=
  .next (if s.resetLow then s else syncEffect s)

/-- R21: every block at its value after reset, the Return Lane's report in passing abandoned. The items
held at the stream port wait in the list processor. -/
def lineReset (s : State) : State := (resetBlocks s).setLane .afterReset

/-- The reset line goes low (R21). -/
def execResetLineAssert (s : State) : Host.Outcome State Fault Refusal :=
  .next (if s.resetLow then s else (lineReset s).setResetLow true)

/-- An item or notice that waited while the reset line was low. -/
def arrive (s : State) (i : Instr) : State :=
  if i.isNotice then takeNotice i s else present i s

/-- The reset line goes high (R21, R22): every block starts from its reset values, and what waited at the
ports is taken: the items held at the stream port, then what arrived since, in order of arrival. -/
def execResetLineRelease (pins : Pins) (s : State) : Host.Outcome State Fault Refusal :=
  let s := s.setPins pins
  .next (if s.resetLow then
      s.lowArrivals.foldl arrive
        (drainPort (((lineReset s).setResetLow false).setLowArrivals []))
    else s)

end Sys2Proof.Machine
end

