-- ==== Sys2Proof/Machine/Dispatch.lean ====
section
/-! DEFINITION. One arm per command, each a direct call of its meaning. -/

namespace Sys2Proof.Machine

def exec (i : Instr) (s : State) : Host.Outcome State Fault Refusal :=
  match i with
  | .frameStart low pins => Sys2Proof.Machine.execFrameStart low pins s
  | .frameEnd low => Sys2Proof.Machine.execFrameEnd low s
  | .move x y => Sys2Proof.Machine.execMove x y s
  | .stroke low point => Sys2Proof.Machine.execStroke low point s
  | .glyphRun low codes => Sys2Proof.Machine.execGlyphRun low codes s
  | .opaqueItem kind low rest => Sys2Proof.Machine.execOpaqueItem kind low rest s
  | .tagOpen layer entity => Sys2Proof.Machine.execTagOpen layer entity s
  | .tagClose => Sys2Proof.Machine.execTagClose s
  | .frameEndIssue => Sys2Proof.Machine.execFrameEndIssue s
  | .generatedFrameEndIssue => Sys2Proof.Machine.execGeneratedFrameEndIssue s
  | .overlayItemIssue => Sys2Proof.Machine.execOverlayItemIssue s
  | .completionNotice seq pins => Sys2Proof.Machine.execCompletionNotice seq pins s
  | .hitNotice seq elapsed => Sys2Proof.Machine.execHitNotice seq elapsed s
  | .unknownNotice word => Sys2Proof.Machine.execUnknownNotice word s
  | .syncArrival => Sys2Proof.Machine.execSyncArrival s
  | .resetLineAssert => Sys2Proof.Machine.execResetLineAssert s
  | .resetLineRelease pins => Sys2Proof.Machine.execResetLineRelease pins s
  | .reportStart pins => Sys2Proof.Machine.execReportStart pins s
  | .reportEnd => Sys2Proof.Machine.execReportEnd s
  | .inBandResetPerformed pins => Sys2Proof.Machine.execInBandResetPerformed pins s
  | .setParameter tag fields => Sys2Proof.Machine.execSetParameter tag fields s
  | .setModes tag fields => Sys2Proof.Machine.execSetModes tag fields s
  | .layerSet tag fields => Sys2Proof.Machine.execLayerSet tag fields s
  | .buttonSet tag fields => Sys2Proof.Machine.execButtonSet tag fields s
  | .loadOpen tag fields => Sys2Proof.Machine.execLoadOpen tag fields s
  | .loadSegment tag fields => Sys2Proof.Machine.execLoadSegment tag fields s
  | .loadClose tag fields => Sys2Proof.Machine.execLoadClose tag fields s
  | .loadAbort tag fields => Sys2Proof.Machine.execLoadAbort tag fields s
  | .placeCross tag fields => Sys2Proof.Machine.execPlaceCross tag fields s
  | .suspendDrag tag fields => Sys2Proof.Machine.execSuspendDrag tag fields s
  | .resumeDrag tag fields => Sys2Proof.Machine.execResumeDrag tag fields s
  | .cancelDrag tag fields => Sys2Proof.Machine.execCancelDrag tag fields s
  | .clearFault tag fields => Sys2Proof.Machine.execClearFault tag fields s
  | .mark tag fields => Sys2Proof.Machine.execMark tag fields s
  | .status tag fields => Sys2Proof.Machine.execStatus tag fields s
  | .describe tag fields => Sys2Proof.Machine.execDescribe tag fields s
  | .resetEnable tag fields => Sys2Proof.Machine.execResetEnable tag fields s
  | .reset tag fields => Sys2Proof.Machine.execReset tag fields s
  | .unknownOrder code tag fields => Sys2Proof.Machine.execUnknownOrder code tag fields s
  | .beamPortWordSent => Sys2Proof.Machine.execBeamPortWordSent s

end Sys2Proof.Machine
end

