-- ==== Sys2Proof/Safety.lean ====
section
/-! DEFINITION. What the manual says always holds of the part's state, block by block, as tests of a state:
the laws that claims about every step keep. -/

namespace Sys2Proof.Machine

/-- R17, R34 to R36: at most 48 entries with consecutive numbers modulo 256, the next number following
the newest; a run of completed entries followed by the outstanding ones, at most 16, as counted. -/
def Trail.lawful (t : Trail) : Bool :=
  t.entries.length ≤ 48 && t.nextSeq < 256 && t.outstanding ≤ 16 &&
  t.outstanding ≤ t.entries.length &&
  t.entries.zipIdx.all (fun e => e.1.seq == (t.nextSeq + 256 - t.entries.length + e.2) % 256) &&
  (t.entries.take (t.entries.length - t.outstanding)).all (fun e => e.completed) &&
  (t.entries.drop (t.entries.length - t.outstanding)).all (fun e => !e.completed)

/-- R32: every lit entry has a length of at least 1. -/
def Trail.litLong (t : Trail) : Bool := t.entries.all (fun e => !e.lit || 1 ≤ e.length)

/-- 1.4: the item in hand is the one the phase says, and an emission is in progress only in OVERLAY. -/
def State.handLawful (s : State) : Bool :=
  match s.decoder.phase, s.decoder.inHand with
  | .overlay, some (.frameEnd _) => true
  | .unclosing, some (.frameStart _) => !s.overlay.emission.emitting
  | .idle, none => !s.overlay.emission.emitting
  | .drawing, none => !s.overlay.emission.emitting
  | .closing, none => !s.overlay.emission.emitting
  | _, _ => false

/-- R23: at most 8 records, each with an entity 1..65535 and a layer 0..63; overflow depth 0..255, and 0
unless 8 records stand. -/
def TagStack.lawful (t : TagStack) : Bool :=
  t.records.length ≤ 8 && t.overflow ≤ 255 &&
  t.records.all (fun r => 1 ≤ r.entity && r.entity ≤ 65535 && r.layer ≤ 63) &&
  (t.overflow == 0 || t.records.length == 8)

/-- R65: at most 16 records, no two with the same sequence number. -/
def hitSetLawful (rs : List HitRecord) : Bool :=
  rs.length ≤ 16 && decide ((rs.map (·.seq)).Nodup)

/-- R170, R171, R175: at most 32 reports queued, the lost count and the coalesced counts in range. -/
def ReturnLane.lawful (l : ReturnLane) : Bool :=
  l.queue.length ≤ 32 && l.lost ≤ 65535 &&
  (l.trackSlot.all fun t => t.coalesced ≤ 255) && (l.dragSlot.all fun d => d.coalesced ≤ 255)

/-- R42, R62: the frame counters and the arrival count are 0..65535. -/
def Correlator.lawful (c : Correlator) : Bool :=
  let k := c.counters
  [k.notices, k.sightings, k.list, k.cross, k.menu, k.snapped, k.dark, k.stale, k.ignored, k.merged,
   k.displaced, k.tagFaults, c.arrivals].all (· ≤ 65535)

/-- 5.1: the pen is STOWED exactly when the debounced HOLDER reads IN. -/
def Pen.stowedLaw (p : Pen) : Bool := (p.state == .stowed) == (p.holder == .inside)

/-- 5.2: the counts of each pen state: seen 1..6 in SEEN and 0 elsewhere, loss 0..14 in TRACKING and 0
elsewhere. -/
def Pen.countLaw (p : Pen) : Bool :=
  (if p.state = .seen then 1 ≤ p.seen && p.seen ≤ 6 else p.seen == 0) &&
  (if p.state = .tracking then p.loss ≤ 14 else p.loss == 0)

/-- R111: a drag is active only while the pen state is TRACKING; release pending only while suspended. -/
def State.dragLaw (s : State) : Bool :=
  match s.tracking.drag with
  | none => true
  | some d => s.pen.state == .tracking && (!d.releasePending || d.suspended)

/-- R160: every parameter in force, and every pending one, is in its range. -/
def Banks.paramLaw (b : Banks) : Bool :=
  [ParamName.lag, .settle, .dwell, .glyphStep, .snap, .radius, .arm, .gap, .stepLimit, .lossFrames,
   .seenFrames, .pressWindow].all fun n =>
    (paramLow n ≤ b.params.get n && b.params.get n ≤ paramHigh n) &&
    (b.pendingParams.get n).all fun v => paramLow n ≤ v && v ≤ paramHigh n

/-- R103: a point within the bounds of the ARM and GAP in force. -/
def withinBounds (p : PerParam Nat) (c : Point) : Bool :=
  boundLow p ≤ c.x && c.x ≤ boundHigh p && boundLow p ≤ c.y && c.y ≤ boundHigh p

/-- R103: the centre lies within the bounds of the ARM and GAP in force. -/
def State.centreLaw (s : State) : Bool := withinBounds s.banks.params s.tracking.centre

/-- R122, R146: no radio group of the live menu table has two latched buttons, nor of a shadow bank
whose swap is scheduled. -/
def State.radioLaw (s : State) : Bool :=
  !radioConflict s.banks.menuLive &&
  (s.loads.menu != .swapPending || !radioConflict s.banks.menuShadow)

/-- R141: E, C and the entry map of a session in OPEN: E in range, the map within 0..E − 1 without
duplicates. -/
def Session.lawful (t : Table) : Session → Bool
  | .opened count sum map =>
    countInRange t count && sum ≤ 65535 && map.all (· < count) && decide map.Nodup
  | _ => true

/-- R20: the item at the head of the stream port is held by some cause, and only stream items stand
there; R21: only stream items and notices wait for the reset line, and none while it is high. -/
def State.portLaw (s : State) : Bool :=
  (match s.portLine with
    | [] => true
    | i :: _ => stallCauses i s != []) &&
  s.portLine.all Instr.isStreamItem &&
  s.lowArrivals.all (fun i => i.isStreamItem || i.isNotice) &&
  (s.resetLow || s.lowArrivals.isEmpty)

/-- A point with coordinates 0..4095 (00_scope, Screen coordinates). -/
def onScreen (p : Point) : Bool := p.x ≤ 4095 && p.y ≤ 4095

/-- R122, R143: every button of a menu bank keeps the rules of its fields. -/
def MenuTable.buttonsValid (t : MenuTable) : Bool := t.places.toList.all fun p => p.all Button.valid

/-- R126: the copy of the button in emission keeps the rules of a button's fields. -/
def Emission.copyValid : Emission → Bool
  | .button _ b _ => b.valid
  | _ => true

/-- R9, R101: the frame number is 0..65535, and not 0 while a frame is open. -/
def State.frameLaw (s : State) : Bool :=
  s.decoder.frame ≤ 65535 && (!s.frameOpen || 1 ≤ s.decoder.frame)

/-! ## The laws gathered into the invariants that claims are made about -/

/-- The laws of the pen and the drag, with the parameter ranges they rest on: the counts of 5.2 need
SEEN FRAMES and LOSS FRAMES in range. -/
def State.penLaw (s : State) : Bool :=
  s.banks.paramLaw && s.pen.stowedLaw && s.pen.countLaw && s.dragLaw

/-- R4, R32, R103, R122: the beam and every arm of a cross drawn about the centre stay on the screen: the
centre lies within the bounds, the buttons within the screen, and the beam on it; and every lit
entry has a length. The bounds need ARM and GAP in range, the lengths DWELL and GLYPH STEP. -/
def State.screenLaw (s : State) : Bool :=
  s.banks.paramLaw && s.centreLaw && onScreen s.decoder.beam && s.trail.litLong &&
  s.banks.menuLive.buttonsValid && s.banks.menuShadow.buttonsValid && s.overlay.emission.copyValid

/-- The laws of the part's capacities and counts: Tag Stack, Hit Set, report queue and slots, frame
counters, load sessions. -/
def State.capacityLaw (s : State) : Bool :=
  s.tags.lawful && hitSetLawful s.hitSet && s.lane.lawful && s.corr.lawful &&
  s.loads.layers.lawful .layers && s.loads.menu.lawful .menu

/-- 1.4, R9: the phase, the item in hand, the emission and the frame number agree. -/
def State.phaseLaw (s : State) : Bool := s.handLawful && s.frameLaw

/-! ## What claims about one command speak of -/

/-- Nothing stands at the stream port, the reset line is high, and no cause of R20 holds the item: it is
taken in the event that presents it. -/
abbrev State.takesAtOnce (s : State) (i : Instr) : Prop :=
  s.resetLow = false ∧ s.portLine = [] ∧ stallCauses i s = []

/-- The levels of the pen lines after a stream item's arrival: a FRAME START brings them. -/
def State.seenPins (s : State) : Instr → Pins
  | .frameStart _ p => p
  | _ => s.pins

/-- A held item taken in an event that brings the pen lines: a FRAME START opens its frame with the levels
of that event (R86), every other item carries none. -/
def atPins (p : Pins) : Instr → Instr
  | .frameStart low _ => .frameStart low p
  | i => i

/-- R165: the state with the reset-armed flag clear. -/
def State.unarmed (s : State) : State := { s with orders := { s.orders with armed := false } }

/-- R3, R34, R36: what an issue leaves: the entry the newest of at most 48, the next sequence number and
the outstanding count advanced, the beam at the entry's end point, and the words in the backlog. -/
def State.issued (s : State) (e : Entry) (words : List Word) : State :=
  { s with
    trail := { entries := (s.trail.entries ++ [e]).drop (s.trail.entries.length - 47),
               nextSeq := (s.trail.nextSeq + 1) % 256, outstanding := s.trail.outstanding + 1 },
    decoder := { s.decoder with beam := e.stop, backlog := s.decoder.backlog ++ words } }

/-- R27: the path and layer of an item issued from the stream: those of the Tag Stack in DRAWING, and an
empty path otherwise. -/
def State.pathNow (s : State) : Origin :=
  if s.decoder.phase = .drawing then
    .list (s.tags.records.map (·.entity)) (s.tags.records.getLast?.map (·.layer))
  else .list [] none

/-- R29: the frame field of an entry issued now. -/
def State.frameNow (s : State) : Option Nat :=
  if s.decoder.phase = .idle then none else some s.decoder.frame

/-- R23 to R25: `k` tag faults counted into the saturating counter of the frame. -/
def State.faulted (s : State) (k : Nat) : State :=
  { s with corr := { s.corr with counters :=
      { s.corr.counters with
        tagFaults := if k = 0 then s.corr.counters.tagFaults
          else min (s.corr.counters.tagFaults + k) 65535 } } }

/-- R156, R157, R165: what the taking of an order leaves of the Order Unit and the Return Lane when it
queues no other report: the arming cleared, and the REPLY the newest report of the queue. -/
def State.replied (s : State) (tag code : BitVec 8) (status : Status) (payload : Payload) : State :=
  { s with
    orders := { s.orders with armed := false },
    lane := { s.lane with
      queue := s.lane.queue ++
        [.reply tag code s.decoder.frame (s.decoder.phase != .idle) status payload] } }

/-- A completion notice naming sequence number `q` completes the run of outstanding entries up to place
`i`, with no RESET draining and no item held at the port. -/
abbrev State.completesTo (s : State) (q : BitVec 8) (i : Nat) : Prop :=
  s.resetLow = false ∧ s.portLine = [] ∧ s.orders.inHand = none ∧
  (s.trail.named q.toNat).any (fun p => p.1 == i && !p.2.completed) = true

/-- R18: the run of outstanding entries up to place `i` includes the FRAME END that closes the frame. -/
def State.coversFrameEnd (s : State) (i : Nat) : Bool :=
  s.decoder.phase != .idle &&
  (s.trail.entries.take (i + 1)).any fun e =>
    !e.completed && e.kind == .frameEnd && e.frame == some s.decoder.frame

/-- R35: the Trail with every entry up to place `i` completed. -/
def Trail.retired (t : Trail) (i : Nat) : Trail :=
  { t with
    entries := t.entries.mapIdx fun j e => if j ≤ i then { e with completed := true } else e,
    outstanding := t.outstanding - ((t.entries.take (i + 1)).filter fun e => !e.completed).length }

end Sys2Proof.Machine
end

