-- ==== Sys2Proof/Certificates/Slice0/Obligations.lean ====
section
/-! DEFINITION. The statements about the part, for the provers. Each speaks of commands, of states and of
the laws of `Safety.lean`; each docstring names the rule of the manual it formalises, or says that
it is the model's own choice. -/

open Sys2Proof Sys2Proof.Machine

/-! ## The step, the reset values and the words -/

/-- The step is the model's frame around `exec`, and the queue of commands is the model's own (log entry
13): with a command at the front of the queue it is `exec` of that command on the state with the
queue's rest, and on an empty queue it idles. -/
def Obligations.StepRunsFrontCommand : Prop :=
  (∀ (c : Instr) (rest : List Instr) (s : State),
    step { s with pending := c :: rest } = exec c { s with pending := rest }) ∧
  ∀ s : State, s.pending = [] → step s = .next s

/-- The values after reset that R22, R28, R41, R64, R85, R101, R120, R133, R154, R155, R169 and R176 give. -/
def Obligations.ResetValues : Prop :=
  let s := State.reset
  s.decoder = { phase := .idle, frame := 0, beam := ⟨0, 0⟩, inHand := none, linkFault := false,
                backlog := [] } ∧
  s.tags = { records := [], overflow := 0 } ∧
  s.trail = { entries := [], nextSeq := 0, outstanding := 0 } ∧
  s.corr.counters = ⟨0, 0, 0, 0, 0, 0, 0, 0, 0, 0, 0, 0⟩ ∧
  (s.corr.arms.e.count = 0 ∧ s.corr.arms.n.count = 0 ∧ s.corr.arms.w.count = 0 ∧
    s.corr.arms.s.count = 0) ∧
  (∀ i, i < 24 → menuCount s.corr i = 0) ∧ s.corr.firstSighting = none ∧ s.corr.arrivals = 0 ∧
  s.hitSet = [] ∧
  s.resolver = { press := .closed, lastHover := [], dragRequest := false } ∧
  s.pen = { rawHolder := .inside, rawTip := .up, holder := .inside, tip := .up, state := .stowed,
            seen := 0, loss := 0 } ∧
  s.tracking = { centre := ⟨2048, 2048⟩, placement := none, drag := none } ∧
  s.overlay = { enable := true, permission := false, emission := .idle, faultActive := false,
                serial := 0 } ∧
  (∀ i, i < 64 → s.banks.layersLive[i]? = some ⟨false, false, 0⟩ ∧
    s.banks.layersShadow[i]? = some ⟨false, false, 0⟩ ∧ s.banks.pendingLayers[i]? = some none) ∧
  (s.banks.menuLive.band = none ∧ s.banks.menuShadow.band = none ∧
    ∀ i, i < 24 → placeAt s.banks.menuLive i = none ∧ placeAt s.banks.menuShadow i = none) ∧
  s.banks.pendingParams = ⟨none, none, none, none, none, none, none, none, none, none, none, none⟩ ∧
  s.banks.pendingModes = ⟨none, none, none, none⟩ ∧
  s.banks.params = { lag := 24, settle := 6, dwell := 4, glyphStep := 18, snap := 3, radius := 40,
                     arm := 12, gap := 3, stepLimit := 16, lossFrames := 4, seenFrames := 2,
                     pressWindow := 3 } ∧
  s.banks.modes = { overlay := true, hover := false, summary := false, pickOnPress := true } ∧
  s.loads = ⟨.none, .none⟩ ∧
  s.orders = { armed := false, inHand := none } ∧
  s.lane = { queue := [], trackSlot := none, dragSlot := none, lost := 0, lane := .idle,
             owedTrack := false, owedDrag := false }

/-- The reset state keeps every law that the invariants below are made of. -/
def Obligations.ResetIsLawful : Prop :=
  State.reset.trail.lawful = true ∧ State.reset.phaseLaw = true ∧ State.reset.penLaw = true ∧
  State.reset.screenLaw = true ∧ State.reset.capacityLaw = true ∧ State.reset.radioLaw = true ∧
  State.reset.portLaw = true

/-- Words written out from Chapter 11 decode to the items and notices they stand for, and an item whose
words have not all been presented does not (R1, R2). -/
def Obligations.KnownWordsDecode : Prop :=
  ∀ p : Pins,
    decodeItem p [0x01000000] = some (.frameStart 0 p, []) ∧
    decodeItem p [0x030640C8, 7] = some (.move 100 200, [7]) ∧
    decodeItem p [0x04000005, 0x00A000E6] = some (.stroke 5 0x00A000E6, []) ∧
    decodeItem p [0x04000005] = none ∧
    decodeItem p [0x05000203, 0x41424300] = some (.glyphRun 0x203 [0x41424300], []) ∧
    decodeItem p [0x0604000E] = some (.tagOpen 4 14, []) ∧
    decodeItem p [0x11000002, 8, 9] = some (.opaqueItem 0x11 2 [8, 9], []) ∧
    decodeItem p [0x10010101, 0x0001012C] = some (.setParameter 1 [0x0001012C], []) ∧
    decodeItem p [0x10120900] = some (.reset 9 [], []) ∧
    decodeItem p [0x10130500] = some (.unknownOrder 0x13 5 [], []) ∧
    decodeNotice p 0x40000063 = .completionNotice 99 p ∧
    decodeNotice p 0x802A000A = .hitNotice 42 10 ∧
    decodeNotice p 0xC0000001 = .unknownNotice 0xC0000001

/-- R1, R2: the words of a well-formed stream item, whatever follows them, decode to that item, with every
operand at every value its field admits. -/
def Obligations.StreamItemRoundTrip : Prop :=
  ∀ (i : Instr) (rest : List Word), i.isStreamItem = true → i.wellFormed = true →
    decodeItem i.pins (encodeItem i ++ rest) = some (i, rest)

/-- Chapter 11, Reports: "Word 0 of every report carries the report kind in 31..24, the number of words that
follow in 23..16, and the frame number in 15..0", and a path of n entities takes ceil(n / 2) words. -/
def Obligations.ReportHeaderWord : Prop :=
  (∀ r : Report, reportFrame r ≤ 65535 →
    (match r with
      | .pick _ (some d) => d.path.length ≤ 8
      | .hover _ path => path.length ≤ 8
      | _ => True) →
    ∃ w : Word, reportWords r = w :: reportBody r ∧ bits w 31 24 = reportCode r ∧
      bits w 23 16 = (reportBody r).length ∧ bits w 15 0 = reportFrame r) ∧
  ∀ path : List Nat, (pathWords path).length = (path.length + 1) / 2

/-! ## The stream port -/

/-- R20: when each stall cause holds an item of the stream port (R17, R174 for the first and the fifth). -/
def Obligations.StallCauses : Prop :=
  ∀ (i : Instr) (s : State), i.isStreamItem = true →
    (StallCause.windowFull ∈ stallCauses i s ↔ 16 ≤ s.trail.outstanding ∧ i.isForwarded = true ∧
      (s.decoder.phase = .idle ∨ s.decoder.phase = .drawing ∧
        (∀ low p, i ≠ .frameStart low p) ∧ ∀ low, i ≠ .frameEnd low)) ∧
    (StallCause.overlayEmission ∈ stallCauses i s ↔
      s.decoder.phase = .overlay ∧ i.isOrder = false) ∧
    (StallCause.frameBoundary ∈ stallCauses i s ↔
      s.decoder.phase = .closing ∧ i.isOrder = false) ∧
    (StallCause.unclosedClose ∈ stallCauses i s ↔ s.decoder.phase = .unclosing) ∧
    (StallCause.queueFull ∈ stallCauses i s ↔ i.isOrder = true ∧ 32 ≤ s.lane.queue.length) ∧
    (StallCause.resetDrain ∈ stallCauses i s ↔ s.orders.inHand ≠ none) ∧
    (StallCause.resetLine ∈ stallCauses i s ↔ s.resetLow = true)

/-- R20, R21: a stream item presented while the reset line is low, while a cause holds it, or while the
item at the head of the port is held, waits, and nothing else changes. -/
def Obligations.HeldItemWaits : Prop :=
  ∀ (i : Instr) (s : State), i.isStreamItem = true → i.wellFormed = true →
    (s.resetLow = true →
      exec i s = .next { s with lowArrivals := s.lowArrivals ++ [i], pins := s.seenPins i }) ∧
    (s.resetLow = false → s.portLine = [] → stallCauses i s ≠ [] →
      exec i s = .next { s with portLine := [i], pins := s.seenPins i }) ∧
    ∀ h rest, s.resetLow = false → s.portLine = h :: rest → stallCauses h s ≠ [] →
      exec i s = .next { s with portLine := h :: rest ++ [i], pins := s.seenPins i }

/-! ## Drawing, opaque and TAG items -/

/-- R5 (with R3, R10, R16, R27, R29, R31): a MOVE taken is issued with the beam position as its start point,
not lit, its path length its Chebyshev length plus SETTLE. -/
def Obligations.MoveIssued : Prop :=
  ∀ (x y : BitVec 12) (s : State), s.takesAtOnce (.move x y) →
    exec (.move x y) s = .next (s.unarmed.issued
      { seq := s.trail.nextSeq, kind := .move, origin := s.pathNow, start := s.decoder.beam,
        stop := ⟨x.toNat, y.toNat⟩,
        length := max (absDiff s.decoder.beam.x x.toNat) (absDiff s.decoder.beam.y y.toNat)
          + s.banks.params.settle,
        lit := false, glyph := none, frame := s.frameNow, completed := false }
      [firstWord 0x03 (x ++ y)])

/-- R6 (with R3, R10, R16, R27, R29, R31, R32): a STROKE taken is issued from the beam position, lit when
its intensity is above 0; a dot has path length DWELL. -/
def Obligations.StrokeIssued : Prop :=
  ∀ (low : Low) (point : Word) (s : State), s.takesAtOnce (.stroke low point) →
    let dest : Point := ⟨bits point 27 16, bits point 11 0⟩
    exec (.stroke low point) s = .next (s.unarmed.issued
      { seq := s.trail.nextSeq, kind := .stroke, origin := s.pathNow, start := s.decoder.beam,
        stop := dest,
        length := if s.decoder.beam = dest then s.banks.params.dwell
          else max (absDiff s.decoder.beam.x dest.x) (absDiff s.decoder.beam.y dest.y),
        lit := bits low 2 0 != 0, glyph := none, frame := s.frameNow, completed := false }
      [firstWord 0x04 low, point])

/-- R7, R8 (with R3, R4, R10, R16, R27, R29, R31, R32): a GLYPH RUN taken is lit and measured when its size
and count are in range, and otherwise unlit with length 0 and the beam unmoved; an opaque item is
issued unchanged, unlit, with length 0 and the beam unmoved. -/
def Obligations.GlyphRunAndOpaqueIssued : Prop :=
  (∀ (low : Low) (codes : List Word) (s : State), (Instr.glyphRun low codes).wellFormed = true →
    s.takesAtOnce (.glyphRun low codes) →
    let size := bits low 10 8
    let count := bits low 7 0
    let fits := 1 ≤ size ∧ size ≤ 4 ∧ 1 ≤ count ∧ count ≤ 32
    exec (.glyphRun low codes) s = .next (s.unarmed.issued
      { seq := s.trail.nextSeq, kind := .glyphRun, origin := s.pathNow, start := s.decoder.beam,
        stop := if fits then ⟨min (s.decoder.beam.x + 8 * size * count) 4095, s.decoder.beam.y⟩
          else s.decoder.beam,
        length := if fits then count * s.banks.params.glyphStep * size else 0,
        lit := decide fits, glyph := if fits then some ⟨size, count⟩ else none,
        frame := s.frameNow, completed := false }
      (firstWord 0x05 low :: codes))) ∧
  ∀ (kind : BitVec 8) (low : Low) (rest : List Word) (s : State),
    (Instr.opaqueItem kind low rest).wellFormed = true → s.takesAtOnce (.opaqueItem kind low rest) →
    exec (.opaqueItem kind low rest) s = .next (s.unarmed.issued
      { seq := s.trail.nextSeq, kind := .opaqueItem, origin := s.pathNow, start := s.decoder.beam,
        stop := s.decoder.beam, length := 0, lit := false, glyph := none, frame := s.frameNow,
        completed := false }
      (firstWord kind low :: rest))

/-- R23, R1: a TAG OPEN taken in DRAWING is ignored with a tag fault, appended, or counted into the overflow
depth with a tag fault; taken outside a frame it is discarded. -/
def Obligations.TagOpenTaken : Prop :=
  ∀ (layer : BitVec 8) (entity : BitVec 16) (s : State), s.takesAtOnce (.tagOpen layer entity) →
    exec (.tagOpen layer entity) s = .next (
      if s.decoder.phase ≠ .drawing then s.unarmed
      else if entity.toNat = 0 ∨ 63 < layer.toNat then s.unarmed.faulted 1
      else if s.tags.records.length < 8 then
        { s.unarmed with tags :=
            { s.tags with records := s.tags.records ++ [⟨entity.toNat, layer.toNat⟩] } }
      else if s.tags.overflow < 255 then
        { s.unarmed.faulted 1 with tags := { s.tags with overflow := s.tags.overflow + 1 } }
      else s.unarmed.faulted 1)

/-- R24, R1: a TAG CLOSE taken in DRAWING lowers the overflow depth, removes the innermost record, or counts
a tag fault; taken outside a frame it is discarded. -/
def Obligations.TagCloseTaken : Prop :=
  ∀ s : State, s.takesAtOnce .tagClose →
    exec .tagClose s = .next (
      if s.decoder.phase ≠ .drawing then s.unarmed
      else if 0 < s.tags.overflow then
        { s.unarmed with tags := { s.tags with overflow := s.tags.overflow - 1 } }
      else if s.tags.records ≠ [] then
        { s.unarmed with tags := { s.tags with records := s.tags.records.dropLast } }
      else s.unarmed.faulted 1)

/-! ## The open of a frame -/

/-- R9, R26, R63, R84: a FRAME START taken in IDLE opens a frame: the frame number advances, the phase is
DRAWING, the link-fault flag is clear, the FRAME START is issued and sets the beam to (0, 0), and
the Tag Stack, the Hit Correlator's frame state and the Hit Set are emptied. -/
def Obligations.FrameStartOpens : Prop :=
  ∀ (low : Low) (pins : Pins) (s : State), s.takesAtOnce (.frameStart low pins) →
    s.decoder.phase = .idle →
    let frame := if s.decoder.frame = 65535 then 1 else s.decoder.frame + 1
    ∃ t, exec (.frameStart low pins) s = .next t ∧
      t.decoder = { phase := .drawing, frame := frame, beam := ⟨0, 0⟩, inHand := none,
                    linkFault := false, backlog := s.decoder.backlog ++ [firstWord 0x01 low] } ∧
      t.trail = (s.issued
        { seq := s.trail.nextSeq, kind := .frameStart, origin := .list [] none,
          start := s.decoder.beam, stop := ⟨0, 0⟩, length := 0, lit := false, glyph := none,
          frame := some frame, completed := false } []).trail ∧
      t.tags = { records := [], overflow := 0 } ∧ t.corr = State.reset.corr ∧ t.hitSet = [] ∧
      t.orders = s.unarmed.orders ∧ t.pins = pins ∧ t.resetLow = s.resetLow ∧
      t.portLine = [] ∧ t.lowArrivals = s.lowArrivals ∧ t.pending = s.pending

/-- R148, R150 to R153, R123: at an open the scheduled swaps are made, the pending layer sets, parameters and
modes come into force and become absent, and the overlay enable and permission are fixed. -/
def Obligations.OpenAppliesPending : Prop :=
  ∀ (low : Low) (pins : Pins) (s t : State), s.takesAtOnce (.frameStart low pins) →
    s.decoder.phase = .idle → exec (.frameStart low pins) s = .next t →
    (∀ i, i < 64 → t.banks.layersLive[i]? =
      ((s.banks.pendingLayers[i]?).join.or
        (if s.loads.layers = .swapPending then s.banks.layersShadow[i]? else
          s.banks.layersLive[i]?))) ∧
    t.banks.layersShadow =
      (if s.loads.layers = .swapPending then s.banks.layersLive else s.banks.layersShadow) ∧
    t.banks.menuLive =
      (if s.loads.menu = .swapPending then s.banks.menuShadow else s.banks.menuLive) ∧
    t.banks.menuShadow =
      (if s.loads.menu = .swapPending then s.banks.menuLive else s.banks.menuShadow) ∧
    t.loads = ⟨if s.loads.layers = .swapPending then .none else s.loads.layers,
               if s.loads.menu = .swapPending then .none else s.loads.menu⟩ ∧
    (∀ n, t.banks.params.get n = (s.banks.pendingParams.get n).getD (s.banks.params.get n)) ∧
    t.banks.modes =
      { overlay := s.banks.pendingModes.overlay.getD s.banks.modes.overlay,
        hover := s.banks.pendingModes.hover.getD s.banks.modes.hover,
        summary := s.banks.pendingModes.summary.getD s.banks.modes.summary,
        pickOnPress := s.banks.pendingModes.pickOnPress.getD s.banks.modes.pickOnPress } ∧
    (∀ i, i < 64 → t.banks.pendingLayers[i]? = some none) ∧
    (∀ n, t.banks.pendingParams.get n = none) ∧
    t.banks.pendingModes = ⟨none, none, none, none⟩ ∧
    t.overlay = { s.overlay with
      enable := t.banks.modes.overlay,
      permission := t.banks.modes.overlay && !s.overlay.faultActive }

/-- R86 to R91, R70, R71, R78, R81: at an open the pen lines are sampled and debounced, the holder's change
and a placement set the pen state, the press window opens, advances or closes by the debounced
lines, the drag request lapses, and the hover is cleared out of TRACKING or with HOVER off. -/
def Obligations.OpenMovesPenAndPress : Prop :=
  ∀ (low : Low) (pins : Pins) (s t : State), s.takesAtOnce (.frameStart low pins) →
    s.decoder.phase = .idle → exec (.frameStart low pins) s = .next t →
    let h := if pins.holderHigh then Holder.outside else .inside
    let p := if pins.tipHigh then Tip.up else .down
    let holder := if h = s.pen.rawHolder then h else s.pen.holder
    let tip := if p = s.pen.rawTip then p else s.pen.tip
    let stows := s.pen.holder = .outside ∧ holder = .inside
    let state := if stows then PenState.stowed
      else if s.pen.holder = .inside ∧ holder = .outside then .lifted else s.pen.state
    let placed := s.tracking.placement.isSome = true ∧ state ≠ .stowed
    t.pen = { rawHolder := h, rawTip := p, holder := holder, tip := tip,
              state := if placed then .tracking else state,
              seen := if stows ∨ placed then 0 else s.pen.seen,
              loss := if stows ∨ placed then 0 else s.pen.loss } ∧
    t.resolver.press = (match s.resolver.press with
      | .closed =>
        if s.pen.tip = .up ∧ tip = .down ∧ holder = .outside then
          .opened 1 t.banks.params.pressWindow
        else .closed
      | .opened k w =>
        if s.pen.tip = .down ∧ tip = .up ∨ stows then .closed else .opened (k + 1) w) ∧
    t.resolver.dragRequest = false ∧
    t.resolver.lastHover =
      (if t.pen.state = .tracking ∧ t.banks.modes.hover = true then s.resolver.lastHover else [])

/-- R103, R105, R110 to R114: at an open the placement moves the centre or lapses, the centre is clamped to
the bounds of the ARM and GAP now in force, and the drag is ended by the holder or the tip, has its
release held, is started by a request, or stands. -/
def Obligations.OpenMovesCentreAndDrag : Prop :=
  ∀ (low : Low) (pins : Pins) (s t : State), s.takesAtOnce (.frameStart low pins) →
    s.decoder.phase = .idle → exec (.frameStart low pins) s = .next t →
    let lo := t.banks.params.gap + t.banks.params.arm
    let hi := 4095 - t.banks.params.gap - t.banks.params.arm
    let clamp := fun v : Nat => if v < lo then lo else if hi < v then hi else v
    let placed := s.tracking.placement.isSome = true ∧ t.pen.state ≠ .stowed
    let target := if placed then s.tracking.placement.getD s.tracking.centre
      else s.tracking.centre
    t.tracking.centre = ⟨clamp target.x, clamp target.y⟩ ∧
    t.tracking.placement = none ∧
    t.tracking.drag = (match s.tracking.drag with
      | some d =>
        if t.pen.state = .stowed then none
        else if s.pen.tip = .down ∧ t.pen.tip = .up then
          (if d.suspended then some { d with releasePending := true } else none)
        else some d
      | none =>
        if s.resolver.dragRequest = true ∧ t.pen.state = .tracking ∧ t.pen.tip = .down ∧ ¬placed then
          some { origin := t.tracking.centre, suspended := false, releasePending := false,
                 resumeFrame := 0 }
        else none)

/-- R71, R81, R83, R88 to R91, R97, R99, R108, R112 to R114, R170: at an open with room in the queue, the
reports of the Pen Monitor, of the Pick Resolver and of the Tracking Unit are appended, each
block's in its own order and the blocks' interleaved in an order that is not fixed (the free choice
of log entry 1); and a change of the centre fills the slot R108 gives. -/
def Obligations.OpenQueuesReports : Prop :=
  ∀ (low : Low) (pins : Pins) (s t : State), s.takesAtOnce (.frameStart low pins) →
    s.decoder.phase = .idle → exec (.frameStart low pins) s = .next t →
    let frame := t.decoder.frame
    let c := t.tracking.centre
    let toIn := s.pen.holder = .outside ∧ t.pen.holder = .inside
    let toOut := s.pen.holder = .inside ∧ t.pen.holder = .outside
    let toDown := s.pen.tip = .up ∧ t.pen.tip = .down
    let toUp := s.pen.tip = .down ∧ t.pen.tip = .up
    let placed := s.tracking.placement.isSome = true ∧ t.pen.state ≠ .stowed
    let event := fun k => Report.penEvent frame k t.pen.holder t.pen.tip t.pen.state
    let pen := (if toIn then [event .stowed] else if toOut then [event .lifted] else []) ++
      (if toDown ∧ t.pen.holder = .inside then [event .tipInHolder] else []) ++
      (if placed ∧ (toOut ∨ s.pen.state ≠ .tracking) then [.trackAcquired frame .placed c] else [])
    let pick := (if s.resolver.press ≠ .closed ∧ (toUp ∨ toIn) then [.pick frame none] else []) ++
      (if s.resolver.lastHover ≠ [] ∧ t.resolver.lastHover = [] then [.hover frame []] else [])
    let drag := (match s.tracking.drag, t.tracking.drag with
      | some d, none => [Report.dragEnd frame
          (if t.pen.state = .stowed then .stowed else .released) c (displacement c d.origin)]
      | none, some _ => [.dragStart frame c]
      | _, _ => [])
    let moved := s.pen.state = .tracking ∧ t.pen.state = .tracking ∧ c ≠ s.tracking.centre ∧
      drag = []
    s.lane.queue.length + pen.length + pick.length + drag.length ≤ 32 →
    (∃ m, t.lane.queue = s.lane.queue ++ m ∧ m.Perm (pen ++ pick ++ drag) ∧ pen.Sublist m ∧
      pick.Sublist m ∧ drag.Sublist m) ∧
    t.lane.lost = s.lane.lost ∧ t.lane.lane = s.lane.lane ∧
    t.lane.trackSlot = (if moved ∧ t.tracking.drag = none then
        some ⟨frame, c, (s.lane.trackSlot.map fun x => min (x.coalesced + 1) 255).getD 0⟩
      else s.lane.trackSlot) ∧
    t.lane.dragSlot = (match t.tracking.drag with
      | some d => if moved then
          some ⟨frame, c, displacement c d.origin,
            (s.lane.dragSlot.map fun x => min (x.coalesced + 1) 255).getD 0⟩
        else s.lane.dragSlot
      | none => s.lane.dragSlot)

/-! ## FRAME START in DRAWING, FRAME END, and the items in hand -/

/-- R14, R25: a FRAME START taken in DRAWING ends the frame unclosed: it is put in hand, the phase becomes
UNCLOSING, the brackets left open are counted, and the generated FRAME END, with an empty path, is
issued in the same event if the window allows (that it belongs to this event is the model's reading,
log entry 6). -/
def Obligations.FrameStartEndsUnclosed : Prop :=
  ∀ (low : Low) (pins : Pins) (s : State), s.takesAtOnce (.frameStart low pins) →
    s.decoder.phase = .drawing →
    let u : State := { s.unarmed.faulted (s.tags.records.length + s.tags.overflow) with
      pins := pins,
      decoder := { s.decoder with phase := .unclosing, inHand := some (.frameStart low) } }
    exec (.frameStart low pins) s = .next (
      if s.trail.outstanding < 16 ∧ (s.trail.entries.all fun e =>
          !(e.kind == .frameEnd && e.frame == some s.decoder.frame && !e.completed)) = true then
        u.issued { seq := s.trail.nextSeq, kind := .frameEnd, origin := .list [] none,
                   start := s.decoder.beam, stop := s.decoder.beam, length := 0, lit := false,
                   glyph := none, frame := some s.decoder.frame, completed := false }
          [firstWord 0x02 0]
      else u)

/-- R10, R11, R16, R25, R124, R126: a FRAME END taken in IDLE is issued unframed; taken in DRAWING it is put
in hand, the brackets left open are counted, and the emission is fixed by the permission, the pen
state and the present buttons; an empty emission ends at once, and the FRAME END is then issued in
the same event if the window allows (that the first button is read, and
the FRAME END issued, in this event is the model's reading, log entries 8 and 6). -/
def Obligations.FrameEndTaken : Prop :=
  ∀ (low : Low) (s : State), s.takesAtOnce (.frameEnd low) →
    let e : Entry := { seq := s.trail.nextSeq, kind := .frameEnd, origin := s.pathNow,
                       start := s.decoder.beam, stop := s.decoder.beam, length := 0, lit := false,
                       glyph := none, frame := s.frameNow, completed := false }
    (s.decoder.phase = .idle →
      exec (.frameEnd low) s = .next (s.unarmed.issued e [firstWord 0x02 low])) ∧
    (s.decoder.phase = .drawing →
      ∃ em : Emission,
        (s.overlay.permission = false → em = .idle) ∧
        (s.overlay.permission = true → s.pen.state = .seen ∨ s.pen.state = .tracking →
          em = .cross 0) ∧
        (s.overlay.permission = true → s.pen.state = .stowed ∨ s.pen.state = .lifted →
          (∀ i b, i < 24 → placeAt s.banks.menuLive i = some b →
            (∀ j, j < i → placeAt s.banks.menuLive j = none) → em = .button i b 0) ∧
          ((∀ i, i < 24 → placeAt s.banks.menuLive i = none) → em = .idle)) ∧
        let u : State := { s.unarmed.faulted (s.tags.records.length + s.tags.overflow) with
          decoder := { s.decoder with phase := .overlay, inHand := some (.frameEnd low) },
          overlay := { s.overlay with emission := em } }
        let v := u.issued e [firstWord 0x02 low]
        exec (.frameEnd low) s = .next (
          if em = .idle ∧ s.trail.outstanding < 16 then
            { v with decoder := { v.decoder with phase := .closing, inHand := none } }
          else u))

/-- R11, R14, R27: a FRAME END in hand whose emission has ended is issued once the window allows, with the
Tag Stack's path, and the phase becomes CLOSING; the generated FRAME END of an unclosed frame is
issued once the window allows, with an empty path. A command that finds nothing due changes nothing
(the model's choice, log entry 6). -/
def Obligations.FrameEndIssued : Prop :=
  (∀ (low : Low) (s : State), s.decoder.phase = .overlay → s.decoder.inHand = some (.frameEnd low) →
    s.overlay.emission = .idle →
    let v := s.issued { seq := s.trail.nextSeq, kind := .frameEnd,
                        origin := .list (s.tags.records.map (·.entity))
                          (s.tags.records.getLast?.map (·.layer)),
                        start := s.decoder.beam, stop := s.decoder.beam, length := 0, lit := false,
                        glyph := none, frame := some s.decoder.frame, completed := false }
      [firstWord 0x02 low]
    exec .frameEndIssue s = .next (if s.trail.outstanding < 16 then
        { v with decoder := { v.decoder with phase := .closing, inHand := none } } else s)) ∧
  (∀ s : State, s.decoder.phase = .unclosing →
    exec .generatedFrameEndIssue s = .next (
      if s.trail.outstanding < 16 ∧ (s.trail.entries.all fun e =>
          !(e.kind == .frameEnd && e.frame == some s.decoder.frame && !e.completed)) = true then
        s.issued { seq := s.trail.nextSeq, kind := .frameEnd, origin := .list [] none,
                   start := s.decoder.beam, stop := s.decoder.beam, length := 0, lit := false,
                   glyph := none, frame := some s.decoder.frame, completed := false }
          [firstWord 0x02 0]
      else s)) ∧
  (∀ s : State, s.decoder.phase ≠ .overlay ∨ s.overlay.emission ≠ .idle →
    exec .frameEndIssue s = .next s) ∧
  ∀ s : State, s.decoder.phase ≠ .unclosing → exec .generatedFrameEndIssue s = .next s

/-! ## The overlay -/

/-- R102, R125, R127: each of the cross's first seven items is issued about the centre with the ARM and GAP
in force, a MOVE to the arm's inner end or a STROKE at intensity 7 to its outer end, in the order
E, N, W, S; at a full window nothing is issued. -/
def Obligations.CrossItemIssued : Prop :=
  ∀ (n : Nat) (s : State), n < 7 → s.overlay.emission = .cross n →
    let c := s.tracking.centre
    let g := s.banks.params.gap
    let a := s.banks.params.arm
    let arm := match n / 2 with
      | 0 => Arm.e
      | 1 => .n
      | 2 => .w
      | _ => .s
    let dest : Point := match n with
      | 0 => ⟨c.x + g, c.y⟩
      | 1 => ⟨c.x + (g + a), c.y⟩
      | 2 => ⟨c.x, c.y + g⟩
      | 3 => ⟨c.x, c.y + (g + a)⟩
      | 4 => ⟨c.x - g, c.y⟩
      | 5 => ⟨c.x - (g + a), c.y⟩
      | _ => ⟨c.x, c.y - g⟩
    let far := max (absDiff s.decoder.beam.x dest.x) (absDiff s.decoder.beam.y dest.y)
    let move := n % 2 = 0
    exec .overlayItemIssue s = .next (if s.trail.outstanding < 16 then
        { s.issued
            { seq := s.trail.nextSeq, kind := if move then .move else .stroke,
              origin := .cross arm, start := s.decoder.beam, stop := dest,
              length := if move then far + s.banks.params.settle
                else if s.decoder.beam = dest then s.banks.params.dwell else far,
              lit := !decide move, glyph := none, frame := s.frameNow, completed := false }
            (if move then moveWords dest else strokeWords 7 dest) with
          overlay := { s.overlay with emission := .cross (n + 1) } }
      else s)

/-- R126, R127, R124: each item of a button but its last is issued from the copy, with origin MENU, the
button's index and code and its enabled flag, the outline at the intensity R126 gives. The last item of
the cross is the S arm's STROKE, and that of a button the outline's last STROKE or the label, a GLYPH RUN
of size 1. After the last item of the cross or of a button the emission stands at the next present place,
whose button is copied, or has ended, and the list's FRAME END is then issued if the window allows (that
the reading and the issue belong to this event is the model's reading, log entries 6 and 8). -/
def Obligations.ButtonItemIssued : Prop :=
  (∀ (i n : Nat) (b : Button) (s : State), s.overlay.emission = .button i b n →
    n + 1 < (if b.label = [] then 5 else 7) → s.trail.outstanding < 16 →
    let dest : Point := match n with
      | 1 => ⟨b.x + b.w, b.y⟩
      | 2 => ⟨b.x + b.w, b.y + b.h⟩
      | 3 => ⟨b.x, b.y + b.h⟩
      | 5 => ⟨b.x + 4, b.y + (b.h - 12) / 2⟩
      | _ => ⟨b.x, b.y⟩
    let far := max (absDiff s.decoder.beam.x dest.x) (absDiff s.decoder.beam.y dest.y)
    let move := n = 0 ∨ n = 5
    let bright := if b.latched then 7 else if b.enabled then 5 else 2
    exec .overlayItemIssue s = .next
      { s.issued
          { seq := s.trail.nextSeq, kind := if move then .move else .stroke,
            origin := .menu i b.code b.enabled, start := s.decoder.beam, stop := dest,
            length := if move then far + s.banks.params.settle
              else if s.decoder.beam = dest then s.banks.params.dwell else far,
            lit := !decide move, glyph := none, frame := s.frameNow, completed := false }
          (if move then moveWords dest else strokeWords bright dest) with
        overlay := { s.overlay with emission := .button i b (n + 1) } }) ∧
  ∀ (first : Nat) (low : Low) (s : State), s.trail.outstanding < 16 →
    (s.overlay.emission = .cross 7 ∧ first = 0 ∨
      ∃ i b, s.overlay.emission = .button i b (if b.label = [] then 4 else 6) ∧ first = i + 1) →
    s.decoder.phase = .overlay → s.decoder.inHand = some (.frameEnd low) →
    let beam := s.decoder.beam
    let drawn := fun (kind : Kind) (origin : Origin) (stop : Point) (length : Nat)
        (glyph : Option Glyph) =>
      ({ seq := s.trail.nextSeq, kind := kind, origin := origin, start := beam, stop := stop,
         length := length, lit := true, glyph := glyph, frame := s.frameNow,
         completed := false } : Entry)
    let line := fun dest : Point => if beam = dest then s.banks.params.dwell
      else max (absDiff beam.x dest.x) (absDiff beam.y dest.y)
    ∃ t e, exec .overlayItemIssue s = .next t ∧
      t.trail.entries[t.trail.entries.length - (t.trail.outstanding - s.trail.outstanding)]? =
        some e ∧
      (s.overlay.emission = .cross 7 →
        let dest : Point := ⟨s.tracking.centre.x,
          s.tracking.centre.y - (s.banks.params.gap + s.banks.params.arm)⟩
        e = drawn .stroke (.cross .s) dest (line dest) none) ∧
      (∀ i b, s.overlay.emission = .button i b 4 → b.label = [] →
        e = drawn .stroke (.menu i b.code b.enabled) ⟨b.x, b.y⟩ (line ⟨b.x, b.y⟩) none) ∧
      (∀ i b, s.overlay.emission = .button i b 6 → b.label ≠ [] → b.label.length ≤ 12 →
        let n := b.label.length
        e = drawn .glyphRun (.menu i b.code b.enabled) ⟨min (beam.x + 8 * n) 4095, beam.y⟩
          (n * s.banks.params.glyphStep) (some ⟨1, n⟩)) ∧
      (∀ j b, first ≤ j → j < 24 → placeAt s.banks.menuLive j = some b →
        (∀ k, k < j → first ≤ k → placeAt s.banks.menuLive k = none) →
        t.overlay.emission = .button j b 0 ∧ t.decoder.phase = .overlay ∧
        t.trail.outstanding = s.trail.outstanding + 1) ∧
      ((∀ j, j < 24 → first ≤ j → placeAt s.banks.menuLive j = none) →
        t.overlay.emission = .idle ∧
        t.decoder.phase = (if s.trail.outstanding < 15 then .closing else .overlay) ∧
        t.decoder.inHand = (if s.trail.outstanding < 15 then none else some (.frameEnd low)) ∧
        t.trail.outstanding = s.trail.outstanding + (if s.trail.outstanding < 15 then 2 else 1))

/-- R128, R129: a sync arrival during an emission ends it, raises the overlay fault with a new serial, queues
a FAULT OVERLAY with the number of items dropped, and lets the FRAME END in hand be issued; at any
other time, and while the reset line is low, it does nothing. -/
def Obligations.SyncTruncates : Prop :=
  (∀ s : State, s.resetLow = false → s.overlay.emission ≠ .idle →
    let serial := if s.overlay.serial = 255 then 1 else s.overlay.serial + 1
    let items := fun b : Button => if b.label = [] then 5 else 7
    let rest := fun first : Nat => ((List.range 24).map fun j =>
      if first ≤ j then ((placeAt s.banks.menuLive j).map items).getD 0 else 0).sum
    let n := match s.overlay.emission with
      | .idle => 0
      | .cross k => (8 - k) + rest 0
      | .button i b k => (items b - k) + rest (i + 1)
    let u : State := { s with
      overlay := { s.overlay with emission := .idle, faultActive := true, serial := serial },
      lane := s.lane.enqueue (.faultOverlay s.decoder.frame serial n) }
    (∀ low, s.decoder.phase = .overlay → s.decoder.inHand = some (.frameEnd low) →
      s.trail.outstanding < 16 →
      let v := u.issued { seq := s.trail.nextSeq, kind := .frameEnd,
                          origin := .list (s.tags.records.map (·.entity))
                            (s.tags.records.getLast?.map (·.layer)),
                          start := s.decoder.beam, stop := s.decoder.beam, length := 0,
                          lit := false, glyph := none, frame := some s.decoder.frame,
                          completed := false } [firstWord 0x02 low]
      exec .syncArrival s = .next
        { v with decoder := { v.decoder with phase := .closing, inHand := none } }) ∧
    (s.decoder.phase ≠ .overlay ∨ 16 ≤ s.trail.outstanding →
      exec .syncArrival s = .next u)) ∧
  ∀ s : State, s.overlay.emission = .idle ∨ s.resetLow = true → exec .syncArrival s = .next s

/-! ## Completions and closes -/

/-- R18, R35, R17, R20, R13: a completion notice that names an outstanding entry completes it and every
older one, and the outstanding count falls by their number; where no frame closes by it, nothing else
changes (a FRAME END that waits for the window is left to its own command: the model's reading, log
entry 6). Whatever the notice does, an item held at the port behind any others is
dealt with in the same event, after the notice's work and after those before it: it is taken as if it
were then presented, or waits on. So a FRAME START held in CLOSING opens the next frame at the close
(that the items are taken in this event is log entry 4). -/
def Obligations.CompletionRetires : Prop :=
  (∀ (q : BitVec 8) (pins : Pins) (n : Nat) (s : State), s.completesTo q n →
    s.coversFrameEnd n = false →
    exec (.completionNotice q pins) s = .next { s with pins := pins, trail := s.trail.retired n }) ∧
  (∀ (q : BitVec 8) (pins : Pins) (n : Nat) (i : Instr) (s : State), i.isStreamItem = true →
    i.wellFormed = true →
    { s with portLine := [] }.completesTo q n → s.coversFrameEnd n = false → s.portLine = [i] →
    let u : State := { s with pins := pins, trail := s.trail.retired n, portLine := [] }
    u.takesAtOnce i → exec (.completionNotice q pins) s = exec (atPins pins i) u) ∧
  ∀ (q : BitVec 8) (pins : Pins) (line : List Instr) (i : Instr) (s u : State), s.resetLow = false →
    i.isStreamItem = true → i.wellFormed = true →
    exec (.completionNotice q pins) { s with portLine := line } = .next u →
    let run := exec (.completionNotice q pins) { s with portLine := line ++ [i] }
    (u.takesAtOnce i → run = exec (atPins pins i) u) ∧
    (¬u.takesAtOnce i → run = .next { u with portLine := u.portLine ++ [i] })

/-- R34, R35, R37: in a lawful Trail each entry is named by its own number, a number names an entry only
if it is that entry's, and the outstanding entries are the newest. -/
def Obligations.NumbersNameEntries : Prop :=
  ∀ t : Trail, t.lawful = true →
    (∀ n e, t.entries[n]? = some e → t.named e.seq = some (n, e)) ∧
    (∀ q n e, q < 256 → t.named q = some (n, e) → t.entries[n]? = some e ∧ e.seq = q) ∧
    ∀ n e, t.entries[n]? = some e →
      (e.completed = false ↔ t.entries.length - t.outstanding ≤ n)

/-- R13, R72 to R80, R82, R83, R134, R135: a completion that covers the FRAME END of a frame in CLOSING
closes it normally: the Decoder is idle, and the Pick Resolver judges the frame by a menu selection,
a list pick, the end of the window or a wait, forms the hover and sends the summary. With room for
all, its reports stand in the queue in the order J, H, S. A FRAME START held at the port is then taken
and opens the next frame (R9). The MENU report's code is read from the live menu table, which holds
what the frame's entries carry (the model's reading, log entry 9). -/
def Obligations.NormalCloseJudges : Prop :=
  ∀ (q : BitVec 8) (pins : Pins) (n : Nat) (s : State), s.completesTo q n →
    s.coversFrameEnd n = true → s.decoder.phase = .closing →
    let frame := s.decoder.frame
    let passes := fun r : HitRecord => s.banks.params.radius = 0 ∨ s.pen.state ≠ .tracking ∨
      chebyshev r.point s.tracking.centre ≤ s.banks.params.radius
    let winner := s.resolutionRank.winner s.hitSet
    let noMenu := ∀ j, j < 24 → menuCount s.corr j = 0
    ∃ t J, exec (.completionNotice q pins) s = .next t ∧
      t = { s with
        pins := pins, trail := s.trail.retired n, resolver := t.resolver, banks := t.banks,
        pen := t.pen, tracking := t.tracking, lane := t.lane, freeIndex := t.freeIndex,
        decoder := { s.decoder with phase := .idle, linkFault := false } } ∧
      t.banks = { s.banks with menuLive := { s.banks.menuLive with places := t.banks.menuLive.places } } ∧
      (∀ k w j b, s.resolver.press = .opened k w → j < 24 → 0 < menuCount s.corr j →
        (∀ i, i < 24 → menuCount s.corr i ≤ menuCount s.corr j) →
        (∀ i, i < j → menuCount s.corr i < menuCount s.corr j) →
        placeAt s.banks.menuLive j = some b →
        t.resolver.press = .closed ∧ t.resolver.dragRequest = s.resolver.dragRequest ∧
        (∀ i, i < 24 → placeAt t.banks.menuLive i = (placeAt s.banks.menuLive i).map fun c =>
          if i = j then
            { c with latched := match b.kind with
              | .momentary => c.latched
              | .toggle => !c.latched
              | .radio => true }
          else if b.kind = .radio ∧ c.kind = .radio ∧ c.group = b.group then
            { c with latched := false }
          else c) ∧
        J = [.menu frame j b.code (match b.kind with
          | .momentary => b.latched
          | .toggle => !b.latched
          | .radio => true)]) ∧
      (s.resolver.press = .closed → t.resolver.press = .closed ∧
        t.resolver.dragRequest = s.resolver.dragRequest ∧ t.banks = s.banks ∧ J = []) ∧
      (∀ k w, s.resolver.press = .opened k w → noMenu → t.banks = s.banks ∧
        (∀ r, winner = some r → s.banks.modes.pickOnPress = true → s.tracking.drag = none →
          passes r →
          let drag := (layerEntry s.banks.layersLive r.layer).draggable && s.pen.state == .tracking
          t.resolver.press = .closed ∧
          t.resolver.dragRequest = (drag || s.resolver.dragRequest) ∧
          J = [.pick frame (some ⟨r.point, r.layer, r.path, r.hits, r.snapped, drag⟩)]) ∧
        (¬(∃ r, winner = some r ∧ s.banks.modes.pickOnPress = true ∧ s.tracking.drag = none ∧
            passes r) →
          t.resolver.dragRequest = s.resolver.dragRequest ∧
          t.resolver.press = (if k = w then .closed else .opened k w) ∧
          J = (if k = w then [.pick frame none] else []))) ∧
      (s.banks.modes.hover = true → s.pen.state = .tracking → s.tracking.drag = none →
        (∀ r, winner = some r → passes r → t.resolver.lastHover = r.path) ∧
        (¬(∃ r, winner = some r ∧ passes r) → t.resolver.lastHover = [])) ∧
      (¬(s.banks.modes.hover = true ∧ s.pen.state = .tracking ∧ s.tracking.drag = none) →
        t.resolver.lastHover = s.resolver.lastHover) ∧
      (∀ low p, s.trail.outstanding ≤ 16 →
        ∃ v, exec (.completionNotice q pins) { s with portLine := [.frameStart low p] } = .next v ∧
          exec (.frameStart low pins) t = .next v ∧ v.decoder.phase = .drawing ∧
          v.decoder.frame = (if frame = 65535 then 1 else frame + 1) ∧ v.portLine = []) ∧
      let H := if t.resolver.lastHover = s.resolver.lastHover then []
        else [Report.hover frame t.resolver.lastHover]
      let S := if s.banks.modes.summary = true then
        [Report.frameSummary frame false s.corr.counters] else []
      (s.lane.queue.length + 5 ≤ 32 →
        t.lane.lost = s.lane.lost ∧ t.lane.lane = s.lane.lane ∧
        ∃ m, t.lane.queue = s.lane.queue ++ m ∧
          (m.filter fun r => match r with
            | .trackAcquired .. | .trackLost .. | .dragEnd .. => false
            | _ => true) = J ++ H ++ S)

/-- R93 to R97: at a normal close the pen state and its counts move on by the frame's sightings, cross hits
and drag record, and an acquisition or a loss of the track is reported. -/
def Obligations.NormalCloseMovesPen : Prop :=
  ∀ (q : BitVec 8) (pins : Pins) (n : Nat) (s t : State), s.completesTo q n →
    s.coversFrameEnd n = true → s.decoder.phase = .closing →
    exec (.completionNotice q pins) s = .next t →
    let sighting := s.corr.firstSighting ≠ none
    let a := s.corr.arms
    let crossHits := 0 < a.e.count ∨ 0 < a.n.count ∨ 0 < a.w.count ∨ 0 < a.s.count
    let suspended := ∃ d, s.tracking.drag = some d ∧ d.suspended = true
    let sighted := fun seen : Nat => if s.banks.params.seenFrames ≤ seen then
        { s.pen with state := .tracking, seen := 0, loss := 0 }
      else { s.pen with state := .seen, seen := seen }
    (s.pen.state = .stowed → t.pen = s.pen) ∧
    (s.pen.state = .lifted → ¬sighting → t.pen = s.pen) ∧
    (s.pen.state = .lifted → sighting → t.pen = sighted 1) ∧
    (s.pen.state = .seen → ¬sighting → t.pen = { s.pen with state := .lifted, seen := 0 }) ∧
    (s.pen.state = .seen → sighting → t.pen = sighted (s.pen.seen + 1)) ∧
    (s.pen.state = .tracking → crossHits → t.pen = { s.pen with loss := 0 }) ∧
    (s.pen.state = .tracking → ¬crossHits → suspended → t.pen = s.pen) ∧
    (s.pen.state = .tracking → ¬crossHits → ¬suspended → t.pen =
      if s.banks.params.lossFrames ≤ s.pen.loss + 1 then
        { s.pen with state := .lifted, seen := 0, loss := 0 }
      else { s.pen with loss := s.pen.loss + 1 }) ∧
    (s.lane.queue.length + 5 ≤ 32 →
      ∃ m, t.lane.queue = s.lane.queue ++ m ∧
        (m.filter fun r => match r with
          | .trackAcquired .. | .trackLost .. => true
          | _ => false) =
          if s.pen.state ≠ .tracking ∧ t.pen.state = .tracking then
            [.trackAcquired s.decoder.frame .sighted t.tracking.centre]
          else if s.pen.state = .tracking ∧ t.pen.state = .lifted then
            [.trackLost s.decoder.frame s.tracking.centre]
          else [])

/-- R106 to R108, R114: at a normal close the centre is placed at the first sighting, moved toward the middle
of the arm hits by at most STEP LIMIT on each axis, or left; it stays within the bounds; a lost track
ends the drag; and a change of the centre in TRACKING fills the slot of R108. -/
def Obligations.NormalCloseMovesCentre : Prop :=
  ∀ (q : BitVec 8) (pins : Pins) (n : Nat) (s t : State), s.completesTo q n →
    s.coversFrameEnd n = true → s.decoder.phase = .closing →
    exec (.completionNotice q pins) s = .next t →
    let a := s.corr.arms
    let crossHits := 0 < a.e.count ∨ 0 < a.n.count ∨ 0 < a.w.count ∨ 0 < a.s.count
    let lo := s.banks.params.gap + s.banks.params.arm
    let hi := 4095 - s.banks.params.gap - s.banks.params.arm
    let clamp := fun v : Int => if v < lo then lo else if (hi : Int) < v then hi else v.toNat
    let limit : Int := s.banks.params.stepLimit
    let toward := fun (c : Int) (low high : Nat) =>
      max (c - limit) (min (c + limit) (((low + high) / 2 : Nat) : Int))
    let axis := fun (c : Nat) (one other : Accumulator) =>
      match (if 0 < one.count then one.span else none),
          (if 0 < other.count then other.span else none) with
      | some p, some r => toward c (min p.least r.least) (max p.greatest r.greatest)
      | some p, none => toward c p.least p.greatest
      | none, some r => toward c r.least r.greatest
      | none, none => (c : Int)
    let moved : Point := ⟨clamp (axis s.tracking.centre.x a.e a.w),
      clamp (axis s.tracking.centre.y a.n a.s)⟩
    let sighted := match s.corr.firstSighting with
      | some p => (⟨clamp p.x, clamp p.y⟩ : Point)
      | none => s.tracking.centre
    let suspended := ∃ d, s.tracking.drag = some d ∧ d.suspended = true
    let lost := s.pen.state = .tracking ∧ ¬crossHits ∧ ¬suspended ∧
      s.banks.params.lossFrames ≤ s.pen.loss + 1
    (s.pen.state = .stowed → t.tracking.centre = s.tracking.centre) ∧
    (s.pen.state = .lifted → t.tracking.centre = sighted) ∧
    (s.pen.state = .seen → t.tracking.centre = if crossHits then moved else sighted) ∧
    (s.pen.state = .tracking → suspended → t.tracking.centre = s.tracking.centre) ∧
    (s.pen.state = .tracking → ¬suspended →
      t.tracking.centre = if crossHits then moved else s.tracking.centre) ∧
    t.tracking.placement = s.tracking.placement ∧
    (lost → t.tracking.drag = none) ∧ (¬lost → t.tracking.drag = s.tracking.drag) ∧
    (s.lane.queue.length + 5 ≤ 32 →
      ∃ m, t.lane.queue = s.lane.queue ++ m ∧
        (m.filter fun r => match r with
          | .dragEnd .. => true
          | _ => false) = match s.tracking.drag with
            | some d => if lost then [.dragEnd s.decoder.frame .lost s.tracking.centre
                (displacement s.tracking.centre d.origin)] else []
            | none => []) ∧
    let fills := s.pen.state = .tracking ∧ t.tracking.centre ≠ s.tracking.centre
    t.lane.trackSlot = (if fills ∧ s.tracking.drag = none then
        some ⟨s.decoder.frame, t.tracking.centre,
          (s.lane.trackSlot.map fun x => min (x.coalesced + 1) 255).getD 0⟩
      else s.lane.trackSlot) ∧
    t.lane.dragSlot = (match s.tracking.drag with
      | some d => if fills then
          some ⟨s.decoder.frame, t.tracking.centre, displacement t.tracking.centre d.origin,
            (s.lane.dragSlot.map fun x => min (x.coalesced + 1) 255).getD 0⟩
        else s.lane.dragSlot
      | none => s.lane.dragSlot)

/-- R15, R72, R82 to R84, R98: a completion that covers the generated FRAME END of a frame in UNCLOSING closes
it unclosed: no judgement is made, the press window ends in a MISS if this was its last frame, the
summary with the unclosed flag and the FAULT UNCLOSED are queued, the Hit Set is emptied, the pen and
the centre are left, and the FRAME START in hand then opens the next frame as it would from IDLE (but
clears no arming, since its taking did so); an item held at the port behind it is dealt with in the
same event, in the new frame (log entry 4). That the FAULT UNCLOSED stands after the Resolver's reports
is log entry 10. -/
def Obligations.UnclosedCloseReopens : Prop :=
  ∀ (q : BitVec 8) (pins : Pins) (n : Nat) (low : Low) (s : State), s.completesTo q n →
    s.coversFrameEnd n = true → s.decoder.phase = .unclosing →
    s.decoder.inHand = some (.frameStart low) → s.trail.outstanding ≤ 16 →
    let frame := s.decoder.frame
    let ends := match s.resolver.press with
      | .opened k w => decide (k = w)
      | .closed => false
    let miss := if ends then [Report.pick frame none] else []
    let summary := if s.banks.modes.summary = true then
      [Report.frameSummary frame true s.corr.counters] else []
    let u : State := { s with
      decoder := { s.decoder with phase := .idle, inHand := none, linkFault := false },
      trail := s.trail.retired n,
      resolver := { s.resolver with press := if ends then .closed else s.resolver.press },
      hitSet := [],
      lane := s.lane.enqueueAll (miss ++ summary ++ [.faultUnclosed frame]) }
    ∃ t, exec (.frameStart low pins) u = .next t ∧ t.decoder.phase = .drawing ∧
      exec (.completionNotice q pins) s = .next { t with orders := s.orders } ∧
      ∀ i : Instr, i.isStreamItem = true → i.wellFormed = true →
        exec (.completionNotice q pins) { s with portLine := [i] } =
          exec (atPins pins i) { t with orders := s.orders }

/-- R19, R21: a completion that names no entry or a completed one, and a notice of unknown kind, raise a LINK
fault: with the flag clear the flag is set and the FAULT is queued, with the frame number while a
frame is open and 0 otherwise; with it set the notice is ignored. While the reset line is low every
notice waits. -/
def Obligations.LinkFaultRaised : Prop :=
  let raised := fun (cause : LinkCause) (s : State) => if s.decoder.linkFault = true then s else
    { s with
      decoder := { s.decoder with linkFault := true },
      lane := s.lane.enqueue
        (.faultLink (if s.decoder.phase = .idle then 0 else s.decoder.frame) cause) }
  (∀ (q : BitVec 8) (pins : Pins) (s : State), s.resetLow = false → s.portLine = [] →
    (∀ n e, s.trail.named q.toNat = some (n, e) → e.completed = true) →
    exec (.completionNotice q pins) s =
      .next (raised (.notOutstanding q.toNat) { s with pins := pins })) ∧
  (∀ (w : Word) (s : State), bits w 31 30 = 0 ∨ bits w 31 30 = 3 →
    exec (.unknownNotice w) s = .next (if s.resetLow = true then
      { s with lowArrivals := s.lowArrivals ++ [.unknownNotice w] }
      else raised .unknownNotice s)) ∧
  ∀ s : State, s.resetLow = true →
    (∀ q pins, exec (.completionNotice q pins) s = .next
      { s with pins := pins, lowArrivals := s.lowArrivals ++ [.completionNotice q pins] }) ∧
    ∀ q e, exec (.hitNotice q e) s = .next
      { s with lowArrivals := s.lowArrivals ++ [.hitNotice q e] }

/-! ## Hit notices -/

/-- R43, R47, R55, R62: a hit notice with no frame open, or naming an unframed entry, changes nothing; one
naming no entry or a completed one, or whose walk-back finds no landing, is stale; one that lands
dark, with no candidate or with the chosen one farther off than SNAP, is dark. -/
def Obligations.HitDiscardedOrStale : Prop :=
  ∀ (q : BitVec 8) (e : BitVec 13) (s : State), s.resetLow = false →
    let k := s.corr.counters
    let up := fun n : Nat => min (n + 1) 65535
    let stale : State := { s with corr := { s.corr with counters :=
      { k with notices := up k.notices, stale := up k.stale } } }
    let dark : State := { s with corr := { s.corr with counters :=
      { k with notices := up k.notices, dark := up k.dark } } }
    (s.decoder.phase = .idle → exec (.hitNotice q e) s = .next s) ∧
    (s.decoder.phase ≠ .idle →
      (s.trail.named q.toNat = none → exec (.hitNotice q e) s = .next stale) ∧
      ∀ n h, s.trail.named q.toNat = some (n, h) →
        (h.frame = none → exec (.hitNotice q e) s = .next s) ∧
        (h.frame ≠ none → h.completed = true → exec (.hitNotice q e) s = .next stale) ∧
        (h.frame ≠ none → h.completed = false →
          let l := landing s.banks.params.lag e.toNat h (s.trail.entries.take n).reverse
          (l = none → exec (.hitNotice q e) s = .next stale) ∧
          ∀ a, l = some a → a.entry.lit = false →
            (∀ c, a.candidate = some c → s.banks.params.snap < c.distance) →
            exec (.hitNotice q e) s = .next dark))

/-- R43, R52, R55 to R61: a hit that lands in a lit entry, or snaps to one, is attributed to it and counted by
its origin: to the arm's accumulator, to the button's menu count, or, unless untagged, not pickable
or in the menu band, handed to the Hit Set under the next arrival number; cross and list hits are
sightings, and the first fixes the first-sighting point. -/
def Obligations.HitAttributed : Prop :=
  ∀ (q : BitVec 8) (el : BitVec 13) (n : Nat) (h e : Entry) (p : Point) (snapped : Bool)
    (a : Landing) (s : State), s.resetLow = false → s.decoder.phase ≠ .idle →
    s.trail.named q.toNat = some (n, h) → h.frame ≠ none → h.completed = false →
    landing s.banks.params.lag el.toNat h (s.trail.entries.take n).reverse = some a →
    (a.entry.lit = true ∧ e = a.entry ∧ p = landingPoint a.entry a.offset ∧ snapped = false ∨
      a.entry.lit = false ∧ snapped = true ∧
        ∃ d, a.candidate = some ⟨e, p, d⟩ ∧ d ≤ s.banks.params.snap) →
    let k := s.corr.counters
    let up := fun n : Nat => min (n + 1) 65535
    let base := { k with
      notices := up k.notices, snapped := if snapped = true then up k.snapped else k.snapped }
    let first := some (s.corr.firstSighting.getD p)
    let takes := fun (acc : Accumulator) (v : Nat) => (⟨up acc.count, match acc.span with
      | some sp => if acc.count = 0 then some ⟨v, v⟩
          else some ⟨min sp.least v, max sp.greatest v⟩
      | none => some ⟨v, v⟩⟩ : Accumulator)
    (∀ arm, e.origin = .cross arm → exec (.hitNotice q el) s = .next { s with corr := { s.corr with
      counters := { base with sightings := up k.sightings, cross := up k.cross },
      firstSighting := first,
      arms := match arm with
        | .e => { s.corr.arms with e := takes s.corr.arms.e p.x }
        | .n => { s.corr.arms with n := takes s.corr.arms.n p.y }
        | .w => { s.corr.arms with w := takes s.corr.arms.w p.x }
        | .s => { s.corr.arms with s := takes s.corr.arms.s p.y } } }) ∧
    (∀ index code enabled, e.origin = .menu index code enabled →
      ∃ menu, exec (.hitNotice q el) s = .next { s with corr := { s.corr with
          counters := { base with
            menu := up k.menu, ignored := if enabled = true then k.ignored else up k.ignored },
          menu := menu } } ∧
        ∀ j, j < 24 → menu[j]? = (s.corr.menu[j]?).map fun c =>
          if enabled = true ∧ j = index then up c else c) ∧
    ∀ path layer, e.origin = .list path layer →
      let counted := { base with sightings := up k.sightings, list := up k.list }
      let keep := ∃ l, layer = some l ∧ path ≠ [] ∧
        (layerEntry s.banks.layersLive l).pickable = true ∧
        ∀ b, s.banks.menuLive.band = some b →
          ¬(b.x ≤ p.x ∧ p.x ≤ b.x + b.w ∧ b.y ≤ p.y ∧ p.y ≤ b.y + b.h)
      (¬keep → exec (.hitNotice q el) s = .next { s with corr := { s.corr with
        counters := { counted with ignored := up k.ignored }, firstSighting := first } }) ∧
      ∀ l, keep → layer = some l → exec (.hitNotice q el) s = .next
        (handOver ⟨e.seq, path, l, p, snapped, 1, up s.corr.arrivals⟩
          { s with corr := { s.corr with
              counters := counted, firstSighting := first, arrivals := up s.corr.arrivals } })

/-- R45 to R48: walk-back lands exactly LAG steps of path behind the progress of the named entry: in the named
entry itself, or in an earlier one strictly before its end point, with no FRAME START stepped back
from; and it finds no landing exactly when the steps run out at a FRAME START or at the oldest entry.
`older` holds the entries before `h`, newest first. -/
def Obligations.LandingIsLagStepsBack : Prop :=
  ∀ (lag e : Nat) (h : Entry) (older : List Entry),
    let p := min e h.length
    let steps := fun es : List Entry => (es.map fun x => x.length).sum
    (∀ l, landing lag e h older = some l →
      lag ≤ p ∧ l.entry = h ∧ l.offset + lag = p ∧ l.older = older ∧ l.newer = [] ∨
      ∃ passed, older = passed ++ l.entry :: l.older ∧ l.newer = passed.reverse ++ [h] ∧
        l.offset < l.entry.length ∧
        p + steps passed + (l.entry.length - l.offset) = lag ∧
        ∀ x ∈ h :: passed, x.kind ≠ .frameStart) ∧
    (landing lag e h older = none ↔
      ∃ passed rest, older = passed ++ rest ∧ p + steps passed < lag ∧
        (rest = [] ∨ ∃ x, (h :: passed).getLast? = some x ∧ x.kind = .frameStart))

/-- R33, R49 to R51: the point of a landing: along a stroke the distance from the start point on each axis is
the exact one rounded to the nearest integer, a half upward, so that it is exact on the longer axis
and the point lies in the stroke's box; in a dot it is the dot; in a glyph run it is the centre of
the cell, the last one at the run's end. -/
def Obligations.StrokePointOnLine : Prop :=
  (∀ (e : Entry) (q : Nat), e.glyph = none → e.start = e.stop → landingPoint e q = e.start) ∧
  (∀ (e : Entry) (q : Nat), e.glyph = none → e.start ≠ e.stop → q ≤ chebyshev e.start e.stop →
    let p := landingPoint e q
    let l := chebyshev e.start e.stop
    let on := fun a b v : Nat =>
      min a b ≤ v ∧ v ≤ max a b ∧
      2 * l * absDiff a v ≤ 2 * absDiff a b * q + l ∧
      2 * absDiff a b * q + l < 2 * l * absDiff a v + 2 * l ∧
      (absDiff a b = l → absDiff a v = q)
    on e.start.x e.stop.x p.x ∧ on e.start.y e.stop.y p.y ∧
    (q = 0 → p = e.start) ∧ (q = l → p = e.stop)) ∧
  ∀ (e : Entry) (size count cell q : Nat), e.glyph = some ⟨size, count⟩ → 0 < count → 0 < cell →
    e.length = count * cell → q ≤ e.length →
    let k := if q = e.length then count - 1 else q / cell
    k < count ∧ landingPoint e q = ⟨e.start.x + 8 * size * k + 4 * size, e.start.y + 6 * size⟩

/-- R53 to R55: the candidates of a dark landing are the nearest lit entry before it, not past a FRAME START,
and the nearest lit entry after it up to the named one, at the distance of the unlit path between;
the nearer is chosen, the backward one on a tie, and the hit snaps to it within SNAP and is dark
otherwise. -/
def Obligations.DarkLandingDecided : Prop :=
  ∀ (l : Landing) (snap : Nat), l.entry.lit = false →
    let steps := fun es : List Entry => (es.map fun x => x.length).sum
    let centre := fun (e : Entry) (g : Glyph) (k : Nat) =>
      (⟨e.start.x + 8 * g.size * k + 4 * g.size, e.start.y + 6 * g.size⟩ : Point)
    let b := backward l.offset l.entry l.older
    let f := forward (l.entry.length - l.offset) l.newer
    (∀ c, b = some c ↔ ∃ passed rest, l.older = passed ++ c.entry :: rest ∧ c.entry.lit = true ∧
      (∀ x ∈ passed, x.lit = false) ∧ (∀ x ∈ l.entry :: passed, x.kind ≠ .frameStart) ∧
      c.distance = l.offset + steps passed ∧
      c.point = match c.entry.glyph with
        | some g => centre c.entry g (g.count - 1)
        | none => c.entry.stop) ∧
    (∀ c, f = some c ↔ ∃ passed rest, l.newer = passed ++ c.entry :: rest ∧ c.entry.lit = true ∧
      (∀ x ∈ passed, x.lit = false) ∧
      c.distance = l.entry.length - l.offset + steps passed ∧
      c.point = match c.entry.glyph with
        | some g => centre c.entry g 0
        | none => c.entry.start) ∧
    (b = none → f = none → resolveLanding snap l = .dark) ∧
    ∀ c, (b = some c ∧ (∀ d, f = some d → c.distance ≤ d.distance) ∨
        f = some c ∧ ∀ d, b = some d → c.distance < d.distance) →
      l.candidate = some c ∧
      resolveLanding snap l = if c.distance ≤ snap then .seen c.entry c.point true else .dark

/-! ## The Hit Set -/

/-- R66, R67: a list hit handed to the Hit Set on an entry already held raises that record's hit count; a new
one is placed while fewer than 16 records are held; at a full set it displaces the record that ranks
below every other if it ranks strictly above it, and is dropped otherwise. -/
def Obligations.HandOverMergesOrPlaces : Prop :=
  ∀ (new : HitRecord) (s : State),
    let k := s.corr.counters
    let held := ∃ r ∈ s.hitSet, r.seq = new.seq
    (held → handOver new s = { s with
      hitSet := s.hitSet.map fun r =>
        if r.seq = new.seq then { r with hits := min (r.hits + 1) 255 } else r,
      corr := { s.corr with counters := { k with merged := min (k.merged + 1) 65535 } } }) ∧
    (¬held → s.hitSet.length < 16 → handOver new s = { s with hitSet := s.hitSet ++ [new] }) ∧
    (¬held → 16 ≤ s.hitSet.length → (s.hitSet.map fun r => r.seq).Nodup →
      ∃ low ∈ s.hitSet, (∀ r ∈ s.hitSet, r ≠ low → s.insertionRank.above r low = true) ∧
        handOver new s = { s with
          hitSet := if s.insertionRank.above new low = true then
            (s.hitSet.filter fun r => r.seq ≠ low.seq) ++ [new] else s.hitSet,
          corr := { s.corr with counters := { k with displaced := min (k.displaced + 1) 65535 } } })

/-- R68, R69: the keys of the two ranks and the reference point; records with distinct numbers stand in one
strict order, and the winner of a set is its record that ranks above every other. -/
def Obligations.WinnerRanksAboveAll : Prop :=
  (∀ s : State, s.resolutionRank.useCount = true ∧ s.insertionRank.useCount = false ∧
    s.resolutionRank.table = s.banks.layersLive ∧ s.insertionRank.table = s.banks.layersLive ∧
    s.resolutionRank.ref = s.insertionRank.ref ∧
    s.insertionRank.ref =
      if s.pen.state = .tracking then some s.tracking.centre else s.corr.firstSighting) ∧
  ∀ r : Ranking,
    (∀ (p : Point) (a b : HitRecord), r.ref = some p →
      let pri := fun x : HitRecord => (layerEntry r.table x.layer).priority
      let far := fun x : HitRecord => max (absDiff x.point.x p.x) (absDiff x.point.y p.y)
      (r.above a b = true ↔ pri b < pri a ∨ pri a = pri b ∧ (far a < far b ∨ far a = far b ∧
        (r.useCount = true ∧ b.hits < a.hits ∨ (r.useCount = true → a.hits = b.hits) ∧
          (a.arrival < b.arrival ∨ a.arrival = b.arrival ∧ a.seq < b.seq))))) ∧
    (∀ a b : HitRecord, a.seq ≠ b.seq → (r.above a b = true ↔ r.above b a = false)) ∧
    (∀ a b c : HitRecord, r.above a b = true → r.above b c = true → r.above a c = true) ∧
    r.winner [] = none ∧
    ∀ rs : List HitRecord, rs ≠ [] → (rs.map fun x => x.seq).Nodup →
      ∃ w ∈ rs, r.winner rs = some w ∧ ∀ x ∈ rs, x ≠ w → r.above w x = true

/-! ## Orders: parameters, modes, tables -/

/-- R160, R151, R156, R157: SET PARAMETER of a known name makes the value, clamped to the parameter's range,
pending and answers with it; an unknown name is refused RANGE. The names, ranges and defaults are
those of the table of R160. -/
def Obligations.SetParameterTaken : Prop :=
  (∀ (tag : BitVec 8) (w : Word) (s : State), s.takesAtOnce (.setParameter tag [w]) →
    let v := bits w 15 0
    exec (.setParameter tag [w]) s = .next (match paramOf (bits w 31 16) with
      | none => s.replied tag 0x01 (.refused .range) .absent
      | some n =>
        let c := max (paramLow n) (min v (paramHigh n))
        { s.replied tag 0x01 (if paramLow n ≤ v ∧ v ≤ paramHigh n then .accepted else .adjusted)
            (.param n c) with
          banks := { s.banks with pendingParams := s.banks.pendingParams.set n (some c) } })) ∧
  (∀ row ∈ ([(1, .lag, 0, 255, 24), (2, .settle, 0, 63, 6), (3, .dwell, 1, 15, 4),
      (4, .glyphStep, 8, 63, 18), (5, .snap, 0, 31, 3), (6, .radius, 0, 255, 40),
      (7, .arm, 4, 32, 12), (8, .gap, 2, 8, 3), (9, .stepLimit, 1, 64, 16),
      (10, .lossFrames, 1, 15, 4), (11, .seenFrames, 1, 7, 2), (12, .pressWindow, 1, 8, 3)] :
      List (Nat × ParamName × Nat × Nat × Nat)),
    paramOf row.1 = some row.2.1 ∧ paramLow row.2.1 = row.2.2.1 ∧ paramHigh row.2.1 = row.2.2.2.1 ∧
    PerParam.defaults.get row.2.1 = row.2.2.2.2) ∧
  (∀ c, c = 0 ∨ 12 < c → paramOf c = none) ∧
  ∀ (p : PerParam (Option Nat)) (n m : ParamName) (v : Option Nat),
    (p.set n v).get m = if m = n then v else p.get m

/-- R161, R131, R152, R156: SET MODES with a setting that is none of the three is refused BAD FIELD; with
OVERLAY ON while the overlay fault is active it is refused FAULT ACTIVE; otherwise the modes set ON
or OFF become pending and the others keep their pending value. -/
def Obligations.SetModesTaken : Prop :=
  ∀ (tag : BitVec 8) (w : Word) (s : State), s.takesAtOnce (.setModes tag [w]) →
    let old := s.banks.pendingModes
    let mode := fun (c : Nat) (was : Option Bool) => if c = 0 then was else some (decide (c = 1))
    exec (.setModes tag [w]) s = .next (
      if bits w 7 6 = 3 ∨ bits w 5 4 = 3 ∨ bits w 3 2 = 3 ∨ bits w 1 0 = 3 then
        s.replied tag 0x02 (.refused .badField) .absent
      else if bits w 7 6 = 1 ∧ s.overlay.faultActive = true then
        s.replied tag 0x02 (.refused .faultActive) .absent
      else
        { s.replied tag 0x02 .accepted .absent with
          banks := { s.banks with pendingModes :=
            ⟨mode (bits w 7 6) old.overlay, mode (bits w 5 4) old.hover,
              mode (bits w 3 2) old.summary, mode (bits w 1 0) old.pickOnPress⟩ } })

/-- R150, R156: LAYER SET tests the layer, the priority and the layer session, in that order; accepted, it
holds the whole entry as the pending set of its layer. -/
def Obligations.LayerSetTaken : Prop :=
  ∀ (tag : BitVec 8) (w : Word) (s : State), s.takesAtOnce (.layerSet tag [w]) →
    (63 < bits w 31 24 → exec (.layerSet tag [w]) s =
      .next (s.replied tag 0x03 (.refused .range) .absent)) ∧
    (bits w 31 24 ≤ 63 → 15 < bits w 7 0 → exec (.layerSet tag [w]) s =
      .next (s.replied tag 0x03 (.refused .badField) .absent)) ∧
    (bits w 31 24 ≤ 63 → bits w 7 0 ≤ 15 → s.loads.layers = .swapPending →
      exec (.layerSet tag [w]) s = .next (s.replied tag 0x03 .wait .absent)) ∧
    (bits w 31 24 ≤ 63 → bits w 7 0 ≤ 15 → s.loads.layers ≠ .swapPending →
      ∃ sets, exec (.layerSet tag [w]) s = .next
          { s.replied tag 0x03 .accepted .absent with
            banks := { s.banks with pendingLayers := sets } } ∧
        ∀ i, i < 64 → sets[i]? = if i = bits w 31 24 then
            some (some ⟨bits w 15 15 == 1, bits w 14 14 == 1, bits w 7 0⟩)
          else s.banks.pendingLayers[i]?)

/-- R136, R137, R138, R149, R156: BUTTON SET waits for a scheduled swap of the menu table, is refused RANGE for
an absent place and for LATCH on a MOMENTARY button, collides with the button in emission, and
otherwise enables, disables, latches (unlatching the other buttons of a RADIO group) or unlatches. -/
def Obligations.ButtonSetTaken : Prop :=
  ∀ (tag : BitVec 8) (w : Word) (s : State), s.takesAtOnce (.buttonSet tag [w]) →
    let i := bits w 15 8
    let action := bits w 1 0
    (s.loads.menu = .swapPending →
      exec (.buttonSet tag [w]) s = .next (s.replied tag 0x04 .wait .absent)) ∧
    (s.loads.menu ≠ .swapPending → placeAt s.banks.menuLive i = none →
      exec (.buttonSet tag [w]) s = .next (s.replied tag 0x04 (.refused .range) .absent)) ∧
    ∀ b, s.loads.menu ≠ .swapPending → placeAt s.banks.menuLive i = some b →
      let unlatches := fun (j : Nat) (c : Button) => action = 2 ∧ b.kind = .radio ∧ j ≠ i ∧
        c.kind = .radio ∧ c.group = b.group ∧ c.latched = true
      let collides := ∃ j copy k, s.overlay.emission = .button j copy k ∧
        (j = i ∨ ∃ c, placeAt s.banks.menuLive j = some c ∧ unlatches j c)
      (action = 2 → b.kind = .momentary → exec (.buttonSet tag [w]) s =
        .next (s.replied tag 0x04 (.refused .range) .absent)) ∧
      (¬(action = 2 ∧ b.kind = .momentary) → collides →
        exec (.buttonSet tag [w]) s = .next (s.replied tag 0x04 .collided .absent)) ∧
      (¬(action = 2 ∧ b.kind = .momentary) → ¬collides →
        ∃ places, exec (.buttonSet tag [w]) s = .next
            { s.replied tag 0x04 .accepted .absent with
              banks := { s.banks with menuLive := { s.banks.menuLive with places := places } } } ∧
          ∀ j, j < 24 → places[j]? = (s.banks.menuLive.places[j]?).map fun place =>
            place.map fun c =>
              if j = i then
                if action = 0 then { c with enabled := true }
                else if action = 1 then { c with enabled := false }
                else { c with latched := decide (action = 2) }
              else if unlatches j c then { c with latched := false }
              else c)

/-- R142, R141, R121, R156: LOAD OPEN tests the table, the session, the entry count and the band, in that
order; accepted, it clears the table's shadow bank, sets the menu's band if one is given, and opens a
session with the count, the checksum and an empty map. -/
def Obligations.LoadOpenTaken : Prop :=
  ∀ (tag : BitVec 8) (w : Word) (more : List Word) (s : State),
    more.length = 0 ∨ more.length = 2 → s.takesAtOnce (.loadOpen tag (w :: more)) →
    let run := exec (.loadOpen tag (w :: more)) s
    let count := bits w 23 16
    let sum := bits w 15 0
    let given := if more.length = 2 then
        some (⟨bits (more.getD 0 0) 27 16, bits (more.getD 0 0) 11 0, bits (more.getD 1 0) 28 16,
          bits (more.getD 1 0) 12 0⟩ : Band)
      else none
    let reply := fun st : Status => s.replied tag 0x05 st .absent
    let session := if bits w 31 24 = 1 then s.loads.layers else s.loads.menu
    let known := bits w 31 24 = 1 ∨ bits w 31 24 = 2
    let fits := if bits w 31 24 = 1 then 1 ≤ count ∧ count ≤ 64 else count ≤ 24
    let good := ∀ b, given = some b → bits w 31 24 = 2 ∧ 1 ≤ b.w ∧ b.w ≤ 4095 ∧ 1 ≤ b.h ∧
      b.h ≤ 4095 ∧ b.x + b.w ≤ 4095 ∧ b.y + b.h ≤ 4095
    (¬known → run = .next (reply (.refused .range))) ∧
    (known → session = .swapPending → run = .next (reply .wait)) ∧
    (known → (∃ c m l, session = .opened c m l) → run = .next (reply (.refused .sessionOpen))) ∧
    (known → session = .none → ¬fits → run = .next (reply (.refused .range))) ∧
    (known → session = .none → fits → ¬good → run = .next (reply (.refused .badField))) ∧
    (session = .none → fits → good →
      (bits w 31 24 = 1 → run = .next
        { reply .accepted with
          loads := { s.loads with layers := .opened count sum [] },
          banks := { s.banks with layersShadow := Vector.replicate 64 ⟨false, false, 0⟩ } }) ∧
      (bits w 31 24 = 2 → run = .next
        { reply .accepted with
          loads := { s.loads with menu := .opened count sum [] },
          banks := { s.banks with
            menuShadow := { band := given, places := Vector.replicate 24 none } } }))

/-- R143, R144, R178, R156: LOAD SEGMENT tests the table, the session, the count, the indices and every
entry's fields, in that order, and a refused segment writes nothing; accepted, each index of the segment
holds its entry, every other index is as before, and the map gains the segment's indices. A table entry's
words, encoded afresh from its fields, spell that entry. The six words of a button place are read by the
layout of Chapter 11: with bit 31 of word 0 clear the place is absent, whatever else they carry;
otherwise they are refused exactly when a field breaks a rule of R143.5, and else give the button of
their fields. -/
def Obligations.LoadSegmentTaken : Prop :=
  (∀ (tag : BitVec 8) (w : Word) (es : List Word) (s : State),
    s.takesAtOnce (.loadSegment tag (w :: es)) →
    (Instr.loadSegment tag (w :: es)).wellFormed = true →
    let run := exec (.loadSegment tag (w :: es)) s
    let first := bits w 23 16
    let n := bits w 7 0
    let reply := fun st : Status => s.replied tag 0x06 st .absent
    let inside := fun i : Nat => first ≤ i ∧ i < first + n
    let grown := fun map m : List Nat => (∀ i, i ∈ m ↔ i ∈ map ∨ inside i) ∧ (map.Nodup → m.Nodup)
    let tests := fun (session : Session) (good : Prop) =>
      ((∀ c k l, session ≠ .opened c k l) → run = .next (reply (.refused .noSession))) ∧
      ∀ c k l, session = .opened c k l →
        (n = 0 ∨ 8 < n → run = .next (reply (.refused .badField))) ∧
        (1 ≤ n → n ≤ 8 → c < first + n → run = .next (reply (.refused .range))) ∧
        (1 ≤ n → n ≤ 8 → first + n ≤ c → ¬good → run = .next (reply (.refused .badField)))
    (bits w 31 24 ≠ 1 → bits w 31 24 ≠ 2 → es.length = n →
      run = .next (reply (.refused .range))) ∧
    (bits w 31 24 = 1 → es.length = n →
      let good := ∀ e ∈ es, bits e 7 0 ≤ 15
      tests s.loads.layers good ∧
      ∀ c k l, s.loads.layers = .opened c k l → 1 ≤ n → n ≤ 8 → first + n ≤ c → good →
        ∃ shadow m, run = .next { reply .accepted with
            loads := { s.loads with layers := .opened c k m },
            banks := { s.banks with layersShadow := shadow } } ∧ grown l m ∧
          ∀ i, i < 64 → shadow[i]? = if inside i then
              (es[i - first]?).map fun e => ⟨bits e 15 15 == 1, bits e 14 14 == 1, bits e 7 0⟩
            else s.banks.layersShadow[i]?) ∧
    (bits w 31 24 = 2 → es.length = 6 * n →
      let place := fun j : Nat => placeOf ((es.drop (6 * j)).take 6)
      let good := ∀ j, j < n → place j ≠ none
      tests s.loads.menu good ∧
      ∀ c k l, s.loads.menu = .opened c k l → 1 ≤ n → n ≤ 8 → first + n ≤ c → good →
        ∃ places m, run = .next { reply .accepted with
            loads := { s.loads with menu := .opened c k m },
            banks := { s.banks with
              menuShadow := { s.banks.menuShadow with places := places } } } ∧ grown l m ∧
          ∀ i, i < 24 → places[i]? = if inside i then place (i - first)
            else s.banks.menuShadow.places[i]?)) ∧
  (∀ p : Option Button, (∀ b, p = some b → b.valid = true ∧ b.code < 256 ∧ b.group < 8 ∧
      b.label.length ≤ 12) → placeOf (placeWords p) = some p) ∧
  (∀ e : LayerEntry, e.priority ≤ 15 → layerEntryOf (layerWord e) = e) ∧
  ∀ ws : List Word,
    let w0 := ws.getD 0 0
    let code := bits w0 23 16
    let len := bits w0 15 12
    let group := bits w0 10 8
    let kind := bits w0 5 4
    let latched := bits w0 0 0
    let x := bits (ws.getD 1 0) 27 16
    let y := bits (ws.getD 1 0) 11 0
    let w := bits (ws.getD 2 0) 26 16
    let h := bits (ws.getD 2 0) 10 0
    (bits w0 31 31 = 0 → placeOf ws = some none) ∧
    (placeOf ws = none ↔ bits w0 31 31 = 1 ∧
      (code = 0 ∨ kind = 3 ∨ kind = 2 ∧ group = 0 ∨ kind ≠ 2 ∧ group ≠ 0 ∨
        kind = 0 ∧ latched = 1 ∨ w < 16 ∨ 1024 < w ∨ h < 16 ∨ 1024 < h ∨ 4095 < x + w ∨
        4095 < y + h ∨ 12 < len)) ∧
    ∀ b, placeOf ws = some (some b) → b.code = code ∧
      b.kind = (match kind with
        | 0 => .momentary
        | 1 => .toggle
        | _ => .radio) ∧
      b.group = group ∧ b.enabled = (bits w0 1 1 == 1) ∧ b.latched = (latched == 1) ∧
      b.x = x ∧ b.y = y ∧ b.w = w ∧ b.h = h ∧ b.label.length = len ∧
      ∀ j, j < len → (b.label.getD j 0).toNat =
        bits (ws.getD (3 + j / 4) 0) (31 - 8 * (j % 4)) (24 - 8 * (j % 4))

/-- R145, R146, R178, R156: LOAD CLOSE tests the table, the session, the map, the checksum and, for the
menu, the radio groups, in that order; a wrong checksum discards the session; accepted, the swap is
scheduled, and for the layer table every pending layer set is discarded. The checksum adds both halves of
every encoded word of the entries below the count: a layer entry's word, whose upper half is 0, and the
six words of a button place, which hold the button's fields by the layout of Chapter 11 with every other
bit 0, and which are 0 for an absent place. -/
def Obligations.LoadCloseTaken : Prop :=
  (∀ (tag : BitVec 8) (w : Word) (s : State), s.takesAtOnce (.loadClose tag [w]) →
    let run := exec (.loadClose tag [w]) s
    let reply := fun st : Status => s.replied tag 0x07 st .absent
    let tests := fun (session : Session) (words : Nat → List Word) (discarded : Loads) =>
      ((∀ c k l, session ≠ .opened c k l) → run = .next (reply (.refused .noSession))) ∧
      ∀ c k l, session = .opened c k l →
        ((∃ i, i < c ∧ i ∉ l) → run = .next (reply (.refused .incomplete))) ∧
        ((∀ i, i < c → i ∈ l) → halfSum (words c) ≠ k → run = .next
          { reply (.refused .checksum) with loads := discarded })
    (bits w 31 24 ≠ 1 → bits w 31 24 ≠ 2 → run = .next (reply (.refused .range))) ∧
    (bits w 31 24 = 1 →
      tests s.loads.layers (shadowWords .layers s.banks) { s.loads with layers := .none } ∧
      ∀ c k l, s.loads.layers = .opened c k l → (∀ i, i < c → i ∈ l) →
        halfSum (shadowWords .layers s.banks c) = k → run = .next
          { reply .accepted with
            loads := { s.loads with layers := .swapPending },
            banks := { s.banks with pendingLayers := Vector.replicate 64 none } }) ∧
    (bits w 31 24 = 2 →
      tests s.loads.menu (shadowWords .menu s.banks) { s.loads with menu := .none } ∧
      ∀ c k l, s.loads.menu = .opened c k l → (∀ i, i < c → i ∈ l) →
        halfSum (shadowWords .menu s.banks c) = k →
        let conflict := ∃ i j a b, i < j ∧ placeAt s.banks.menuShadow i = some a ∧
          placeAt s.banks.menuShadow j = some b ∧ a.kind = .radio ∧ b.kind = .radio ∧
          a.group = b.group ∧ a.latched = true ∧ b.latched = true
        (conflict → run = .next (reply (.refused .conflict))) ∧
        (¬conflict → run = .next
          { reply .accepted with loads := { s.loads with menu := .swapPending } }))) ∧
  (∀ e : LayerEntry, e.priority ≤ 15 → halves (layerWord e) =
    (if e.pickable = true then 32768 else 0) + (if e.draggable = true then 16384 else 0) +
      e.priority ∧ bits (layerWord e) 31 16 = 0) ∧
  (∀ ws, halfSum ws = (ws.map halves).sum % 65536) ∧
  placeWords none = [0, 0, 0, 0, 0, 0] ∧ ((placeWords none).map halves).sum = 0 ∧
  (∀ (b : Banks) (c : Nat), c ≤ 64 → shadowWords .layers b c =
    (List.range c).map fun i => layerWord ((b.layersShadow[i]?).getD ⟨false, false, 0⟩)) ∧
  (∀ (b : Banks) (c : Nat), c ≤ 24 → shadowWords .menu b c =
    (List.range c).flatMap fun i => placeWords (placeAt b.menuShadow i)) ∧
  (∀ w : Word, halves w = bits w 31 16 + bits w 15 0) ∧
  ∀ b : Button, b.valid = true → b.code < 256 → b.group < 8 → b.label.length ≤ 12 →
    ∃ w0 w1 w2 w3 w4 w5 : Word, placeWords (some b) = [w0, w1, w2, w3, w4, w5] ∧
      bits w0 31 31 = 1 ∧ bits w0 30 24 = 0 ∧ bits w0 23 16 = b.code ∧
      bits w0 15 12 = b.label.length ∧ bits w0 11 11 = 0 ∧ bits w0 10 8 = b.group ∧
      bits w0 7 6 = 0 ∧ bits w0 5 4 = (match b.kind with
        | .momentary => 0
        | .toggle => 1
        | .radio => 2) ∧
      bits w0 3 2 = 0 ∧ bits w0 1 1 = (if b.enabled = true then 1 else 0) ∧
      bits w0 0 0 = (if b.latched = true then 1 else 0) ∧
      bits w1 31 28 = 0 ∧ bits w1 27 16 = b.x ∧ bits w1 15 12 = 0 ∧ bits w1 11 0 = b.y ∧
      bits w2 31 27 = 0 ∧ bits w2 26 16 = b.w ∧ bits w2 15 11 = 0 ∧ bits w2 10 0 = b.h ∧
      ∀ j, j < 12 → bits ([w3, w4, w5].getD (j / 4) 0) (31 - 8 * (j % 4)) (24 - 8 * (j % 4)) =
        if j < b.label.length then (b.label.getD j 0).toNat else 0

/-- R147: LOAD ABORT discards an open session; with no session open, or a swap scheduled, it is IGNORED. -/
def Obligations.LoadAbortTaken : Prop :=
  ∀ (tag : BitVec 8) (w : Word) (s : State), s.takesAtOnce (.loadAbort tag [w]) →
    let run := exec (.loadAbort tag [w]) s
    let reply := fun st : Status => s.replied tag 0x08 st .absent
    (bits w 31 24 ≠ 1 → bits w 31 24 ≠ 2 → run = .next (reply (.refused .range))) ∧
    (bits w 31 24 = 1 → run = .next (match s.loads.layers with
      | .opened _ _ _ => { reply .accepted with loads := { s.loads with layers := .none } }
      | .none => reply .ignored
      | .swapPending => reply .ignored)) ∧
    (bits w 31 24 = 2 → run = .next (match s.loads.menu with
      | .opened _ _ _ => { reply .accepted with loads := { s.loads with menu := .none } }
      | .none => reply .ignored
      | .swapPending => reply .ignored))

/-! ## Orders: tracking, faults, payloads -/

/-- R109, R156: PLACE CROSS is refused with the pen STOWED or a drag active; otherwise its point becomes the
pending placement, not clamped. -/
def Obligations.PlaceCrossTaken : Prop :=
  ∀ (tag : BitVec 8) (w : Word) (s : State), s.takesAtOnce (.placeCross tag [w]) →
    exec (.placeCross tag [w]) s = .next (
      if s.pen.state = .stowed then s.replied tag 0x09 (.refused .penStowed) .absent
      else if s.tracking.drag ≠ none then s.replied tag 0x09 (.refused .dragActive) .absent
      else { s.replied tag 0x09 .accepted .absent with
        tracking := { s.tracking with placement := some ⟨bits w 27 16, bits w 11 0⟩ } })

/-- R116, R118, R119, R115, R156: SUSPEND, RESUME and CANCEL DRAG by the drag record. A drag that one of them ends
sends its DRAG END before the REPLY if the queue has a second place free, and otherwise loses it. -/
def Obligations.DragOrdersTaken : Prop :=
  ∀ (tag : BitVec 8) (s : State),
    let ended := fun (code : BitVec 8) (outcome : DragOutcome) (d : Drag) =>
      let u : State := { s with
        tracking := { s.tracking with drag := none },
        lane := if s.lane.queue.length < 31 then
            { s.lane with queue := s.lane.queue ++ [.dragEnd s.decoder.frame outcome
              s.tracking.centre (displacement s.tracking.centre d.origin)] }
          else { s.lane with lost := min (s.lane.lost + 1) 65535 } }
      u.replied tag code .accepted .absent
    (s.takesAtOnce (.suspendDrag tag []) →
      exec (.suspendDrag tag []) s = .next (match s.tracking.drag with
        | none => s.replied tag 0x0A .ignored .absent
        | some d =>
          if d.suspended = true then s.replied tag 0x0A .ignored .absent
          else if s.decoder.frame = d.resumeFrame then s.replied tag 0x0A .wait .absent
          else { s.replied tag 0x0A .accepted .absent with
            tracking := { s.tracking with drag := some { d with suspended := true } } })) ∧
    (s.takesAtOnce (.resumeDrag tag []) →
      exec (.resumeDrag tag []) s = .next (match s.tracking.drag with
        | none => s.replied tag 0x0B .ignored .absent
        | some d =>
          if d.suspended = false then s.replied tag 0x0B .ignored .absent
          else if d.releasePending = true then ended 0x0B .released d
          else { s.replied tag 0x0B .accepted .absent with
            tracking := { s.tracking with
              drag := some { d with suspended := false, resumeFrame := s.decoder.frame } },
            pen := { s.pen with loss := 0 } })) ∧
    (s.takesAtOnce (.cancelDrag tag []) →
      exec (.cancelDrag tag []) s = .next (match s.tracking.drag with
        | none => s.replied tag 0x0C .ignored .absent
        | some d => ended 0x0C .cancelled d))

/-- R130: CLEAR FAULT clears the active overlay fault whose serial it carries, is refused STALE SERIAL with
another serial, and is IGNORED with no fault active; the serial is kept. -/
def Obligations.ClearFaultTaken : Prop :=
  ∀ (tag : BitVec 8) (w : Word) (s : State), s.takesAtOnce (.clearFault tag [w]) →
    exec (.clearFault tag [w]) s = .next (
      if s.overlay.faultActive = false then s.replied tag 0x0D .ignored .absent
      else if bits w 7 0 = s.overlay.serial then
        { s.replied tag 0x0D .accepted .absent with
          overlay := { s.overlay with faultActive := false } }
      else s.replied tag 0x0D (.refused .staleSerial) .absent)

/-- R162 to R165, R157: MARK, STATUS and DESCRIBE are accepted, change no state but the queue and the arming,
and answer with the value, the state of the part as it stood, and the capacities; RESET ENABLE arms
the in-band reset. -/
def Obligations.PayloadOrdersTaken : Prop :=
  ∀ (tag : BitVec 8) (s : State),
    (∀ w, s.takesAtOnce (.mark tag [w]) → exec (.mark tag [w]) s =
      .next (s.replied tag 0x0E .accepted (.mark (bits w 15 0)))) ∧
    (s.takesAtOnce (.status tag []) → exec (.status tag []) s =
      .next (s.replied tag 0x0F .accepted (.status
        { penState := s.pen.state, holder := s.pen.holder, tip := s.pen.tip,
          dragActive := s.tracking.drag.isSome,
          suspended := s.tracking.drag.any fun d => d.suspended,
          releasePending := s.tracking.drag.any fun d => d.releasePending,
          overlayEnable := s.overlay.enable, faultActive := s.overlay.faultActive,
          serial := s.overlay.serial, layerSession := s.loads.layers.state,
          menuSession := s.loads.menu.state, occupancy := s.lane.queue.length,
          frame := s.decoder.frame, frameOpen := s.decoder.phase != .idle,
          outstanding := s.trail.outstanding, armed := s.orders.armed }))) ∧
    (s.takesAtOnce (.describe tag []) → exec (.describe tag []) s =
      .next (s.replied tag 0x10 .accepted .describe)) ∧
    payloadWords .describe = [0x5A373430, 0x01000006, 0x01000040, 0x02000018, 0x03000030,
      0x04000010, 0x05000020, 0x06000010] ∧
    (s.takesAtOnce (.resetEnable tag []) → exec (.resetEnable tag []) s =
      .next { s.replied tag 0x11 .accepted .absent with
        orders := { s.orders with armed := true } })

/-- R165, R166, R168, R176: a RESET taken with the arming clear is refused NOT ARMED; armed, with nothing
outstanding and no FRAME END waiting to be issued, the reset is performed at once; armed with items
outstanding, it is put in hand and no REPLY is queued. -/
def Obligations.ResetTaken : Prop :=
  ∀ (tag : BitVec 8) (s : State), s.takesAtOnce (.reset tag []) →
    (s.orders.armed = false → exec (.reset tag []) s =
      .next (s.replied tag 0x12 (.refused .notArmed) .absent)) ∧
    (s.orders.armed = true → s.trail.outstanding ≠ 0 → exec (.reset tag []) s =
      .next { s with orders := { armed := false, inHand := some tag } }) ∧
    (s.orders.armed = true → s.trail.outstanding = 0 →
      (s.decoder.phase = .overlay → s.overlay.emission ≠ .idle) →
      exec (.reset tag []) s = .next { State.reset with
        lane := { State.reset.lane with
          lane := s.lane.lane, queue := [.reply tag 0x12 0 false .accepted .absent] },
        pins := s.pins, freeIndex := s.freeIndex, lowArrivals := s.lowArrivals,
        pending := s.pending })

/-- R159, R165: an order of an unknown code is refused UNKNOWN ORDER, and one of a length its code does not admit
is refused BAD FIELD; it reaches no owner and changes nothing but the arming and the queue. -/
def Obligations.RefusedBeforeOwner : Prop :=
  ∀ (i : Instr) (code tag : BitVec 8) (f : List Word) (s : State),
    i.orderParts = some (code, tag, f) → i.wellFormed = true → s.takesAtOnce i →
    let one := ([1, 2, 3, 4, 7, 8, 9, 13, 14] : List Nat)
    let zero := ([10, 11, 12, 15, 16, 17, 18] : List Nat)
    (code.toNat = 0 ∨ 18 < code.toNat →
      exec i s = .next (s.replied tag code (.refused .unknownOrder) .absent)) ∧
    (code.toNat ∈ one ∧ f.length ≠ 1 ∨ code.toNat ∈ zero ∧ f.length ≠ 0 ∨
      code.toNat = 5 ∧ f.length ≠ 1 ∧ f.length ≠ 3 ∨
      code.toNat = 6 ∧ (∀ w es, f = w :: es →
        es.length ≠ if bits w 31 24 = 2 then 6 * bits w 7 0 else bits w 7 0) →
      exec i s = .next (s.replied tag code (.refused .badField) .absent))

/-! ## The Return Lane and the output ports -/

/-- R170, R171: a report is appended while fewer than 32 are held and is otherwise dropped and counted; a slot
takes the new report and counts those it replaced. -/
def Obligations.EnqueueAndFill : Prop :=
  ∀ (l : ReturnLane) (r : Report) (frame : Nat) (c : Point) (d : Disp),
    (l.queue.length < 32 → l.enqueue r = { l with queue := l.queue ++ [r] }) ∧
    (32 ≤ l.queue.length → l.enqueue r = { l with lost := min (l.lost + 1) 65535 }) ∧
    (∀ rs, l.queue.length + rs.length ≤ 32 → l.enqueueAll rs = { l with queue := l.queue ++ rs }) ∧
    (∀ rs, l.queue.length ≤ 32 → 32 ≤ l.queue.length + rs.length → l.lost ≤ 65535 →
      l.enqueueAll rs = { l with
        queue := l.queue ++ rs.take (32 - l.queue.length),
        lost := min (l.lost + (l.queue.length + rs.length - 32)) 65535 }) ∧
    l.fillTrack frame c = { l with
      trackSlot := some ⟨frame, c, (l.trackSlot.map fun x => min (x.coalesced + 1) 255).getD 0⟩ } ∧
    l.fillDrag frame c d = { l with
      dragSlot := some ⟨frame, c, d, (l.dragSlot.map fun x => min (x.coalesced + 1) 255).getD 0⟩ }

/-- R172 to R175: the first that applies of R172 is the report whose first word passes; a queued report frees its
place, and an OVERFLOW takes a place if reports were lost, unless an ORDER held by the full queue
alone is taken in the same event. R173, R172: the last word of a report leaves the lane IDLE and,
after a queued report, owes both slots a turn. R3: the oldest word of the beam port's backlog
passes. -/
def Obligations.OutputPortsMove : Prop :=
  (∀ (pins : Pins) (s : State),
    let owed := s.lane.owedTrack = true ∧ s.lane.trackSlot ≠ none
    let owedToo := s.lane.owedDrag = true ∧ s.lane.dragSlot ≠ none
    (s.lane.lane ≠ .idle ∨ s.resetLow = true →
      exec (.reportStart pins) s = .next { s with pins := pins }) ∧
    (s.lane.lane = .idle → s.resetLow = false →
      (∀ x, s.lane.trackSlot = some x → owed ∨ ¬owedToo ∧ s.lane.queue = [] →
        exec (.reportStart pins) s = .next { s with
          pins := pins, lane := { s.lane with
            trackSlot := none, owedTrack := false,
            lane := .sending (.trackPosition x.frame x.centre x.coalesced) } }) ∧
      (∀ x, s.lane.dragSlot = some x → ¬owed →
        owedToo ∨ s.lane.queue = [] ∧ s.lane.trackSlot = none →
        exec (.reportStart pins) s = .next { s with
          pins := pins, lane := { s.lane with
            dragSlot := none, owedDrag := false,
            lane := .sending (.dragMove x.frame x.centre x.disp x.coalesced) } }) ∧
      (s.lane.queue = [] → s.lane.trackSlot = none → s.lane.dragSlot = none →
        exec (.reportStart pins) s = .next { s with pins := pins }) ∧
      ∀ r rest, ¬owed → ¬owedToo → s.lane.queue = r :: rest → s.lane.queue.length ≤ 32 →
        (s.portLine = [] → exec (.reportStart pins) s = .next { s with
          pins := pins, lane := { s.lane with
            queue := if 0 < s.lane.lost then
              rest ++ [.overflow s.decoder.frame s.lane.lost] else rest,
            lost := 0, owedTrack := false, owedDrag := false, lane := .sending r } }) ∧
        ∀ i, s.portLine = [i] → i.isOrder = true → i.wellFormed = true →
          stallCauses i s = [.queueFull] →
          exec (.reportStart pins) s = exec i { s with
            pins := pins, portLine := [], lane := { s.lane with
              queue := rest, owedTrack := false, owedDrag := false, lane := .sending r } })) ∧
  (∀ s : State,
    (s.lane.lane = .idle ∨ s.resetLow = true → exec .reportEnd s = .next s) ∧
    ∀ r, s.lane.lane = .sending r → s.resetLow = false →
      exec .reportEnd s = .next { s with lane := { s.lane with
        lane := .idle,
        owedTrack := s.lane.owedTrack || (reportCode r != 0x0D && reportCode r != 0x0E),
        owedDrag := s.lane.owedDrag || (reportCode r != 0x0D && reportCode r != 0x0E) } }) ∧
  ∀ s : State, exec .beamPortWordSent s = .next (if s.resetLow = true then s else
    { s with decoder := { s.decoder with backlog := s.decoder.backlog.drop 1 } })

/-- R21, R22, R168, R176: the reset line puts every block at its reset value when it goes low, abandoning
the report in passing, and when it goes high again an item that waits is taken in the same event (that
the values are set at the fall, and that a held item survives and is taken at the release, is the model's
reading, log entry 5). The in-band reset is performed once nothing is outstanding and no FRAME END waits:
by the completion that brings the count to 0, after that event's own work, the close of a frame and its
reports included, or, while the list's FRAME END is in hand, by the command that performs it (log entry
7). A report in passing is kept, every other is removed, the RESET's REPLY stands first, and the item
behind the RESET is then taken. -/
def Obligations.ResetsRestart : Prop :=
  (∀ s : State, exec .resetLineAssert s = .next (if s.resetLow = true then s else
    { State.reset with
      pins := s.pins, resetLow := true, portLine := s.portLine, lowArrivals := s.lowArrivals,
      freeIndex := s.freeIndex, pending := s.pending })) ∧
  (∀ (pins : Pins) (s : State),
    let up : State := { State.reset with
      pins := pins, freeIndex := s.freeIndex, pending := s.pending }
    (s.resetLow = false → exec (.resetLineRelease pins) s = .next { s with pins := pins }) ∧
    (s.resetLow = true → s.portLine = [] → s.lowArrivals = [] →
      exec (.resetLineRelease pins) s = .next up) ∧
    ∀ i, s.resetLow = true → s.portLine = [] ∧ s.lowArrivals = [i] ∨
        s.portLine = [i] ∧ s.lowArrivals = [] →
      i.isStreamItem = true → i.wellFormed = true →
      exec (.resetLineRelease pins) s = exec (atPins pins i) up) ∧
  (∀ (pins : Pins) (tag : BitVec 8) (s : State),
    let due := s.trail.outstanding = 0 ∧ (s.decoder.phase = .overlay → s.overlay.emission ≠ .idle)
    let anew : State := { State.reset with
      lane := { State.reset.lane with
        lane := s.lane.lane, queue := [.reply tag 0x12 0 false .accepted .absent] },
      pins := pins, resetLow := s.resetLow, lowArrivals := s.lowArrivals,
      freeIndex := s.freeIndex, pending := s.pending }
    (s.orders.inHand = none ∨ ¬due →
      exec (.inBandResetPerformed pins) s = .next { s with pins := pins }) ∧
    (s.orders.inHand = some tag → due → s.portLine = [] →
      exec (.inBandResetPerformed pins) s = .next anew) ∧
    (∀ i, s.orders.inHand = some tag → due → s.resetLow = false → s.portLine = [i] →
      i.isStreamItem = true → i.wellFormed = true →
      exec (.inBandResetPerformed pins) s = exec (atPins pins i) anew) ∧
    ∀ (q : BitVec 8) (n : Nat) (e : Entry), s.orders.inHand = some tag → s.resetLow = false →
      s.portLine = [] → s.trail.named q.toNat = some (n, e) → e.completed = false →
      (s.decoder.phase = .overlay → exec (.completionNotice q pins) s =
        .next { s with pins := pins, trail := s.trail.retired n }) ∧
      (s.coversFrameEnd n = false → s.decoder.phase ≠ .overlay → s.overlay.emission = .idle →
        (s.trail.retired n).outstanding = 0 →
        exec (.completionNotice q pins) s = .next anew) ∧
      (s.coversFrameEnd n = true → s.decoder.phase = .closing → s.overlay.emission = .idle →
        (s.trail.retired n).outstanding = 0 →
        ∃ k, exec (.completionNotice q pins) s = .next { anew with freeIndex := k }))

/-! ## What every step keeps -/

/-- R17, R34 to R36, 1.4, R9: every step keeps the Trail a run of completed entries followed by at most 16
outstanding ones, with consecutive numbers and at most 48 in all, and keeps the phase, the item in
hand, the emission and the frame number in agreement. -/
def Obligations.StepKeepsTrailAndPhase : Prop :=
  ∀ s t : State, s.trail.lawful = true → s.phaseLaw = true → step s = .next t →
    t.trail.lawful = true ∧ t.phaseLaw = true

/-- R88 to R96, R100, R111, R160: every step keeps every parameter in its range, the pen STOWED exactly while the
debounced HOLDER reads IN, the seen and loss counts in the ranges of each pen state, and a drag active
only in TRACKING with its release pending only while suspended. -/
def Obligations.StepKeepsPenAndDrag : Prop :=
  ∀ s t : State, s.penLaw = true → step s = .next t → t.penLaw = true

/-- R4, R32, R103, R122, R143: every step keeps the centre within the bounds of the ARM and GAP in force, the beam
on the screen, a length of at least 1 for every lit entry, and every button within its rules. -/
def Obligations.StepKeepsScreen : Prop :=
  ∀ s t : State, s.screenLaw = true → step s = .next t → t.screenLaw = true

/-- R23, R42, R62, R65, R122, R141, R146, R170, R171, R175: every step keeps the capacities and the counts: the tag stack, the
hit set without two records of one entry, the report queue and the slots, the counters, the sessions,
and at most one latched button in a radio group of the live menu table. -/
def Obligations.StepKeepsCapacities : Prop :=
  ∀ s t : State, s.capacityLaw = true → s.radioLaw = true → step s = .next t →
    t.capacityLaw = true ∧ t.radioLaw = true

/-- R20, R21: every step leaves at the head of the stream port an item that some cause holds, or nothing, and
lets items and notices wait for the reset line only while it is low. -/
def Obligations.StepKeepsPortLine : Prop :=
  ∀ s t : State, s.portLaw = true → step s = .next t → t.portLaw = true
end

