-- ==== Sys2Proof/Laws/State.lean ====
section
/-! SUPPORT. What each named update of `State` does to each field, by `rfl`: no later proof unfolds a
record update. -/

namespace Sys2Proof.Machine.State

variable (s : State)

@[simp] theorem setDecoder_decoder (v : Decoder) : (s.setDecoder v).decoder = v := rfl
@[simp] theorem setDecoder_tags (v : Decoder) : (s.setDecoder v).tags = s.tags := rfl
@[simp] theorem setDecoder_trail (v : Decoder) : (s.setDecoder v).trail = s.trail := rfl
@[simp] theorem setDecoder_corr (v : Decoder) : (s.setDecoder v).corr = s.corr := rfl
@[simp] theorem setDecoder_hitSet (v : Decoder) : (s.setDecoder v).hitSet = s.hitSet := rfl
@[simp] theorem setDecoder_resolver (v : Decoder) : (s.setDecoder v).resolver = s.resolver := rfl
@[simp] theorem setDecoder_pen (v : Decoder) : (s.setDecoder v).pen = s.pen := rfl
@[simp] theorem setDecoder_tracking (v : Decoder) : (s.setDecoder v).tracking = s.tracking := rfl
@[simp] theorem setDecoder_overlay (v : Decoder) : (s.setDecoder v).overlay = s.overlay := rfl
@[simp] theorem setDecoder_banks (v : Decoder) : (s.setDecoder v).banks = s.banks := rfl
@[simp] theorem setDecoder_loads (v : Decoder) : (s.setDecoder v).loads = s.loads := rfl
@[simp] theorem setDecoder_orders (v : Decoder) : (s.setDecoder v).orders = s.orders := rfl
@[simp] theorem setDecoder_lane (v : Decoder) : (s.setDecoder v).lane = s.lane := rfl
@[simp] theorem setDecoder_pins (v : Decoder) : (s.setDecoder v).pins = s.pins := rfl
@[simp] theorem setDecoder_resetLow (v : Decoder) : (s.setDecoder v).resetLow = s.resetLow := rfl
@[simp] theorem setDecoder_portLine (v : Decoder) : (s.setDecoder v).portLine = s.portLine := rfl
@[simp] theorem setDecoder_lowArrivals (v : Decoder) : (s.setDecoder v).lowArrivals = s.lowArrivals := rfl
@[simp] theorem setDecoder_freeIndex (v : Decoder) : (s.setDecoder v).freeIndex = s.freeIndex := rfl
@[simp] theorem setDecoder_pending (v : Decoder) : (s.setDecoder v).pending = s.pending := rfl
@[simp] theorem setDecoder_self : s.setDecoder s.decoder = s := rfl
@[simp] theorem setDecoder_twice (v w : Decoder) : (s.setDecoder v).setDecoder w = s.setDecoder w := rfl

@[simp] theorem setTags_decoder (v : TagStack) : (s.setTags v).decoder = s.decoder := rfl
@[simp] theorem setTags_tags (v : TagStack) : (s.setTags v).tags = v := rfl
@[simp] theorem setTags_trail (v : TagStack) : (s.setTags v).trail = s.trail := rfl
@[simp] theorem setTags_corr (v : TagStack) : (s.setTags v).corr = s.corr := rfl
@[simp] theorem setTags_hitSet (v : TagStack) : (s.setTags v).hitSet = s.hitSet := rfl
@[simp] theorem setTags_resolver (v : TagStack) : (s.setTags v).resolver = s.resolver := rfl
@[simp] theorem setTags_pen (v : TagStack) : (s.setTags v).pen = s.pen := rfl
@[simp] theorem setTags_tracking (v : TagStack) : (s.setTags v).tracking = s.tracking := rfl
@[simp] theorem setTags_overlay (v : TagStack) : (s.setTags v).overlay = s.overlay := rfl
@[simp] theorem setTags_banks (v : TagStack) : (s.setTags v).banks = s.banks := rfl
@[simp] theorem setTags_loads (v : TagStack) : (s.setTags v).loads = s.loads := rfl
@[simp] theorem setTags_orders (v : TagStack) : (s.setTags v).orders = s.orders := rfl
@[simp] theorem setTags_lane (v : TagStack) : (s.setTags v).lane = s.lane := rfl
@[simp] theorem setTags_pins (v : TagStack) : (s.setTags v).pins = s.pins := rfl
@[simp] theorem setTags_resetLow (v : TagStack) : (s.setTags v).resetLow = s.resetLow := rfl
@[simp] theorem setTags_portLine (v : TagStack) : (s.setTags v).portLine = s.portLine := rfl
@[simp] theorem setTags_lowArrivals (v : TagStack) : (s.setTags v).lowArrivals = s.lowArrivals := rfl
@[simp] theorem setTags_freeIndex (v : TagStack) : (s.setTags v).freeIndex = s.freeIndex := rfl
@[simp] theorem setTags_pending (v : TagStack) : (s.setTags v).pending = s.pending := rfl
@[simp] theorem setTags_self : s.setTags s.tags = s := rfl
@[simp] theorem setTags_twice (v w : TagStack) : (s.setTags v).setTags w = s.setTags w := rfl

@[simp] theorem setTrail_decoder (v : Trail) : (s.setTrail v).decoder = s.decoder := rfl
@[simp] theorem setTrail_tags (v : Trail) : (s.setTrail v).tags = s.tags := rfl
@[simp] theorem setTrail_trail (v : Trail) : (s.setTrail v).trail = v := rfl
@[simp] theorem setTrail_corr (v : Trail) : (s.setTrail v).corr = s.corr := rfl
@[simp] theorem setTrail_hitSet (v : Trail) : (s.setTrail v).hitSet = s.hitSet := rfl
@[simp] theorem setTrail_resolver (v : Trail) : (s.setTrail v).resolver = s.resolver := rfl
@[simp] theorem setTrail_pen (v : Trail) : (s.setTrail v).pen = s.pen := rfl
@[simp] theorem setTrail_tracking (v : Trail) : (s.setTrail v).tracking = s.tracking := rfl
@[simp] theorem setTrail_overlay (v : Trail) : (s.setTrail v).overlay = s.overlay := rfl
@[simp] theorem setTrail_banks (v : Trail) : (s.setTrail v).banks = s.banks := rfl
@[simp] theorem setTrail_loads (v : Trail) : (s.setTrail v).loads = s.loads := rfl
@[simp] theorem setTrail_orders (v : Trail) : (s.setTrail v).orders = s.orders := rfl
@[simp] theorem setTrail_lane (v : Trail) : (s.setTrail v).lane = s.lane := rfl
@[simp] theorem setTrail_pins (v : Trail) : (s.setTrail v).pins = s.pins := rfl
@[simp] theorem setTrail_resetLow (v : Trail) : (s.setTrail v).resetLow = s.resetLow := rfl
@[simp] theorem setTrail_portLine (v : Trail) : (s.setTrail v).portLine = s.portLine := rfl
@[simp] theorem setTrail_lowArrivals (v : Trail) : (s.setTrail v).lowArrivals = s.lowArrivals := rfl
@[simp] theorem setTrail_freeIndex (v : Trail) : (s.setTrail v).freeIndex = s.freeIndex := rfl
@[simp] theorem setTrail_pending (v : Trail) : (s.setTrail v).pending = s.pending := rfl
@[simp] theorem setTrail_self : s.setTrail s.trail = s := rfl
@[simp] theorem setTrail_twice (v w : Trail) : (s.setTrail v).setTrail w = s.setTrail w := rfl

@[simp] theorem setCorr_decoder (v : Correlator) : (s.setCorr v).decoder = s.decoder := rfl
@[simp] theorem setCorr_tags (v : Correlator) : (s.setCorr v).tags = s.tags := rfl
@[simp] theorem setCorr_trail (v : Correlator) : (s.setCorr v).trail = s.trail := rfl
@[simp] theorem setCorr_corr (v : Correlator) : (s.setCorr v).corr = v := rfl
@[simp] theorem setCorr_hitSet (v : Correlator) : (s.setCorr v).hitSet = s.hitSet := rfl
@[simp] theorem setCorr_resolver (v : Correlator) : (s.setCorr v).resolver = s.resolver := rfl
@[simp] theorem setCorr_pen (v : Correlator) : (s.setCorr v).pen = s.pen := rfl
@[simp] theorem setCorr_tracking (v : Correlator) : (s.setCorr v).tracking = s.tracking := rfl
@[simp] theorem setCorr_overlay (v : Correlator) : (s.setCorr v).overlay = s.overlay := rfl
@[simp] theorem setCorr_banks (v : Correlator) : (s.setCorr v).banks = s.banks := rfl
@[simp] theorem setCorr_loads (v : Correlator) : (s.setCorr v).loads = s.loads := rfl
@[simp] theorem setCorr_orders (v : Correlator) : (s.setCorr v).orders = s.orders := rfl
@[simp] theorem setCorr_lane (v : Correlator) : (s.setCorr v).lane = s.lane := rfl
@[simp] theorem setCorr_pins (v : Correlator) : (s.setCorr v).pins = s.pins := rfl
@[simp] theorem setCorr_resetLow (v : Correlator) : (s.setCorr v).resetLow = s.resetLow := rfl
@[simp] theorem setCorr_portLine (v : Correlator) : (s.setCorr v).portLine = s.portLine := rfl
@[simp] theorem setCorr_lowArrivals (v : Correlator) : (s.setCorr v).lowArrivals = s.lowArrivals := rfl
@[simp] theorem setCorr_freeIndex (v : Correlator) : (s.setCorr v).freeIndex = s.freeIndex := rfl
@[simp] theorem setCorr_pending (v : Correlator) : (s.setCorr v).pending = s.pending := rfl
@[simp] theorem setCorr_self : s.setCorr s.corr = s := rfl
@[simp] theorem setCorr_twice (v w : Correlator) : (s.setCorr v).setCorr w = s.setCorr w := rfl

@[simp] theorem setHitSet_decoder (v : List HitRecord) : (s.setHitSet v).decoder = s.decoder := rfl
@[simp] theorem setHitSet_tags (v : List HitRecord) : (s.setHitSet v).tags = s.tags := rfl
@[simp] theorem setHitSet_trail (v : List HitRecord) : (s.setHitSet v).trail = s.trail := rfl
@[simp] theorem setHitSet_corr (v : List HitRecord) : (s.setHitSet v).corr = s.corr := rfl
@[simp] theorem setHitSet_hitSet (v : List HitRecord) : (s.setHitSet v).hitSet = v := rfl
@[simp] theorem setHitSet_resolver (v : List HitRecord) : (s.setHitSet v).resolver = s.resolver := rfl
@[simp] theorem setHitSet_pen (v : List HitRecord) : (s.setHitSet v).pen = s.pen := rfl
@[simp] theorem setHitSet_tracking (v : List HitRecord) : (s.setHitSet v).tracking = s.tracking := rfl
@[simp] theorem setHitSet_overlay (v : List HitRecord) : (s.setHitSet v).overlay = s.overlay := rfl
@[simp] theorem setHitSet_banks (v : List HitRecord) : (s.setHitSet v).banks = s.banks := rfl
@[simp] theorem setHitSet_loads (v : List HitRecord) : (s.setHitSet v).loads = s.loads := rfl
@[simp] theorem setHitSet_orders (v : List HitRecord) : (s.setHitSet v).orders = s.orders := rfl
@[simp] theorem setHitSet_lane (v : List HitRecord) : (s.setHitSet v).lane = s.lane := rfl
@[simp] theorem setHitSet_pins (v : List HitRecord) : (s.setHitSet v).pins = s.pins := rfl
@[simp] theorem setHitSet_resetLow (v : List HitRecord) : (s.setHitSet v).resetLow = s.resetLow := rfl
@[simp] theorem setHitSet_portLine (v : List HitRecord) : (s.setHitSet v).portLine = s.portLine := rfl
@[simp] theorem setHitSet_lowArrivals (v : List HitRecord) : (s.setHitSet v).lowArrivals = s.lowArrivals := rfl
@[simp] theorem setHitSet_freeIndex (v : List HitRecord) : (s.setHitSet v).freeIndex = s.freeIndex := rfl
@[simp] theorem setHitSet_pending (v : List HitRecord) : (s.setHitSet v).pending = s.pending := rfl
@[simp] theorem setHitSet_self : s.setHitSet s.hitSet = s := rfl
@[simp] theorem setHitSet_twice (v w : List HitRecord) : (s.setHitSet v).setHitSet w = s.setHitSet w := rfl

@[simp] theorem setResolver_decoder (v : Resolver) : (s.setResolver v).decoder = s.decoder := rfl
@[simp] theorem setResolver_tags (v : Resolver) : (s.setResolver v).tags = s.tags := rfl
@[simp] theorem setResolver_trail (v : Resolver) : (s.setResolver v).trail = s.trail := rfl
@[simp] theorem setResolver_corr (v : Resolver) : (s.setResolver v).corr = s.corr := rfl
@[simp] theorem setResolver_hitSet (v : Resolver) : (s.setResolver v).hitSet = s.hitSet := rfl
@[simp] theorem setResolver_resolver (v : Resolver) : (s.setResolver v).resolver = v := rfl
@[simp] theorem setResolver_pen (v : Resolver) : (s.setResolver v).pen = s.pen := rfl
@[simp] theorem setResolver_tracking (v : Resolver) : (s.setResolver v).tracking = s.tracking := rfl
@[simp] theorem setResolver_overlay (v : Resolver) : (s.setResolver v).overlay = s.overlay := rfl
@[simp] theorem setResolver_banks (v : Resolver) : (s.setResolver v).banks = s.banks := rfl
@[simp] theorem setResolver_loads (v : Resolver) : (s.setResolver v).loads = s.loads := rfl
@[simp] theorem setResolver_orders (v : Resolver) : (s.setResolver v).orders = s.orders := rfl
@[simp] theorem setResolver_lane (v : Resolver) : (s.setResolver v).lane = s.lane := rfl
@[simp] theorem setResolver_pins (v : Resolver) : (s.setResolver v).pins = s.pins := rfl
@[simp] theorem setResolver_resetLow (v : Resolver) : (s.setResolver v).resetLow = s.resetLow := rfl
@[simp] theorem setResolver_portLine (v : Resolver) : (s.setResolver v).portLine = s.portLine := rfl
@[simp] theorem setResolver_lowArrivals (v : Resolver) : (s.setResolver v).lowArrivals = s.lowArrivals := rfl
@[simp] theorem setResolver_freeIndex (v : Resolver) : (s.setResolver v).freeIndex = s.freeIndex := rfl
@[simp] theorem setResolver_pending (v : Resolver) : (s.setResolver v).pending = s.pending := rfl
@[simp] theorem setResolver_self : s.setResolver s.resolver = s := rfl
@[simp] theorem setResolver_twice (v w : Resolver) : (s.setResolver v).setResolver w = s.setResolver w := rfl

@[simp] theorem setPen_decoder (v : Pen) : (s.setPen v).decoder = s.decoder := rfl
@[simp] theorem setPen_tags (v : Pen) : (s.setPen v).tags = s.tags := rfl
@[simp] theorem setPen_trail (v : Pen) : (s.setPen v).trail = s.trail := rfl
@[simp] theorem setPen_corr (v : Pen) : (s.setPen v).corr = s.corr := rfl
@[simp] theorem setPen_hitSet (v : Pen) : (s.setPen v).hitSet = s.hitSet := rfl
@[simp] theorem setPen_resolver (v : Pen) : (s.setPen v).resolver = s.resolver := rfl
@[simp] theorem setPen_pen (v : Pen) : (s.setPen v).pen = v := rfl
@[simp] theorem setPen_tracking (v : Pen) : (s.setPen v).tracking = s.tracking := rfl
@[simp] theorem setPen_overlay (v : Pen) : (s.setPen v).overlay = s.overlay := rfl
@[simp] theorem setPen_banks (v : Pen) : (s.setPen v).banks = s.banks := rfl
@[simp] theorem setPen_loads (v : Pen) : (s.setPen v).loads = s.loads := rfl
@[simp] theorem setPen_orders (v : Pen) : (s.setPen v).orders = s.orders := rfl
@[simp] theorem setPen_lane (v : Pen) : (s.setPen v).lane = s.lane := rfl
@[simp] theorem setPen_pins (v : Pen) : (s.setPen v).pins = s.pins := rfl
@[simp] theorem setPen_resetLow (v : Pen) : (s.setPen v).resetLow = s.resetLow := rfl
@[simp] theorem setPen_portLine (v : Pen) : (s.setPen v).portLine = s.portLine := rfl
@[simp] theorem setPen_lowArrivals (v : Pen) : (s.setPen v).lowArrivals = s.lowArrivals := rfl
@[simp] theorem setPen_freeIndex (v : Pen) : (s.setPen v).freeIndex = s.freeIndex := rfl
@[simp] theorem setPen_pending (v : Pen) : (s.setPen v).pending = s.pending := rfl
@[simp] theorem setPen_self : s.setPen s.pen = s := rfl
@[simp] theorem setPen_twice (v w : Pen) : (s.setPen v).setPen w = s.setPen w := rfl

@[simp] theorem setTracking_decoder (v : Tracking) : (s.setTracking v).decoder = s.decoder := rfl
@[simp] theorem setTracking_tags (v : Tracking) : (s.setTracking v).tags = s.tags := rfl
@[simp] theorem setTracking_trail (v : Tracking) : (s.setTracking v).trail = s.trail := rfl
@[simp] theorem setTracking_corr (v : Tracking) : (s.setTracking v).corr = s.corr := rfl
@[simp] theorem setTracking_hitSet (v : Tracking) : (s.setTracking v).hitSet = s.hitSet := rfl
@[simp] theorem setTracking_resolver (v : Tracking) : (s.setTracking v).resolver = s.resolver := rfl
@[simp] theorem setTracking_pen (v : Tracking) : (s.setTracking v).pen = s.pen := rfl
@[simp] theorem setTracking_tracking (v : Tracking) : (s.setTracking v).tracking = v := rfl
@[simp] theorem setTracking_overlay (v : Tracking) : (s.setTracking v).overlay = s.overlay := rfl
@[simp] theorem setTracking_banks (v : Tracking) : (s.setTracking v).banks = s.banks := rfl
@[simp] theorem setTracking_loads (v : Tracking) : (s.setTracking v).loads = s.loads := rfl
@[simp] theorem setTracking_orders (v : Tracking) : (s.setTracking v).orders = s.orders := rfl
@[simp] theorem setTracking_lane (v : Tracking) : (s.setTracking v).lane = s.lane := rfl
@[simp] theorem setTracking_pins (v : Tracking) : (s.setTracking v).pins = s.pins := rfl
@[simp] theorem setTracking_resetLow (v : Tracking) : (s.setTracking v).resetLow = s.resetLow := rfl
@[simp] theorem setTracking_portLine (v : Tracking) : (s.setTracking v).portLine = s.portLine := rfl
@[simp] theorem setTracking_lowArrivals (v : Tracking) : (s.setTracking v).lowArrivals = s.lowArrivals := rfl
@[simp] theorem setTracking_freeIndex (v : Tracking) : (s.setTracking v).freeIndex = s.freeIndex := rfl
@[simp] theorem setTracking_pending (v : Tracking) : (s.setTracking v).pending = s.pending := rfl
@[simp] theorem setTracking_self : s.setTracking s.tracking = s := rfl
@[simp] theorem setTracking_twice (v w : Tracking) : (s.setTracking v).setTracking w = s.setTracking w := rfl

@[simp] theorem setOverlay_decoder (v : Overlay) : (s.setOverlay v).decoder = s.decoder := rfl
@[simp] theorem setOverlay_tags (v : Overlay) : (s.setOverlay v).tags = s.tags := rfl
@[simp] theorem setOverlay_trail (v : Overlay) : (s.setOverlay v).trail = s.trail := rfl
@[simp] theorem setOverlay_corr (v : Overlay) : (s.setOverlay v).corr = s.corr := rfl
@[simp] theorem setOverlay_hitSet (v : Overlay) : (s.setOverlay v).hitSet = s.hitSet := rfl
@[simp] theorem setOverlay_resolver (v : Overlay) : (s.setOverlay v).resolver = s.resolver := rfl
@[simp] theorem setOverlay_pen (v : Overlay) : (s.setOverlay v).pen = s.pen := rfl
@[simp] theorem setOverlay_tracking (v : Overlay) : (s.setOverlay v).tracking = s.tracking := rfl
@[simp] theorem setOverlay_overlay (v : Overlay) : (s.setOverlay v).overlay = v := rfl
@[simp] theorem setOverlay_banks (v : Overlay) : (s.setOverlay v).banks = s.banks := rfl
@[simp] theorem setOverlay_loads (v : Overlay) : (s.setOverlay v).loads = s.loads := rfl
@[simp] theorem setOverlay_orders (v : Overlay) : (s.setOverlay v).orders = s.orders := rfl
@[simp] theorem setOverlay_lane (v : Overlay) : (s.setOverlay v).lane = s.lane := rfl
@[simp] theorem setOverlay_pins (v : Overlay) : (s.setOverlay v).pins = s.pins := rfl
@[simp] theorem setOverlay_resetLow (v : Overlay) : (s.setOverlay v).resetLow = s.resetLow := rfl
@[simp] theorem setOverlay_portLine (v : Overlay) : (s.setOverlay v).portLine = s.portLine := rfl
@[simp] theorem setOverlay_lowArrivals (v : Overlay) : (s.setOverlay v).lowArrivals = s.lowArrivals := rfl
@[simp] theorem setOverlay_freeIndex (v : Overlay) : (s.setOverlay v).freeIndex = s.freeIndex := rfl
@[simp] theorem setOverlay_pending (v : Overlay) : (s.setOverlay v).pending = s.pending := rfl
@[simp] theorem setOverlay_self : s.setOverlay s.overlay = s := rfl
@[simp] theorem setOverlay_twice (v w : Overlay) : (s.setOverlay v).setOverlay w = s.setOverlay w := rfl

@[simp] theorem setBanks_decoder (v : Banks) : (s.setBanks v).decoder = s.decoder := rfl
@[simp] theorem setBanks_tags (v : Banks) : (s.setBanks v).tags = s.tags := rfl
@[simp] theorem setBanks_trail (v : Banks) : (s.setBanks v).trail = s.trail := rfl
@[simp] theorem setBanks_corr (v : Banks) : (s.setBanks v).corr = s.corr := rfl
@[simp] theorem setBanks_hitSet (v : Banks) : (s.setBanks v).hitSet = s.hitSet := rfl
@[simp] theorem setBanks_resolver (v : Banks) : (s.setBanks v).resolver = s.resolver := rfl
@[simp] theorem setBanks_pen (v : Banks) : (s.setBanks v).pen = s.pen := rfl
@[simp] theorem setBanks_tracking (v : Banks) : (s.setBanks v).tracking = s.tracking := rfl
@[simp] theorem setBanks_overlay (v : Banks) : (s.setBanks v).overlay = s.overlay := rfl
@[simp] theorem setBanks_banks (v : Banks) : (s.setBanks v).banks = v := rfl
@[simp] theorem setBanks_loads (v : Banks) : (s.setBanks v).loads = s.loads := rfl
@[simp] theorem setBanks_orders (v : Banks) : (s.setBanks v).orders = s.orders := rfl
@[simp] theorem setBanks_lane (v : Banks) : (s.setBanks v).lane = s.lane := rfl
@[simp] theorem setBanks_pins (v : Banks) : (s.setBanks v).pins = s.pins := rfl
@[simp] theorem setBanks_resetLow (v : Banks) : (s.setBanks v).resetLow = s.resetLow := rfl
@[simp] theorem setBanks_portLine (v : Banks) : (s.setBanks v).portLine = s.portLine := rfl
@[simp] theorem setBanks_lowArrivals (v : Banks) : (s.setBanks v).lowArrivals = s.lowArrivals := rfl
@[simp] theorem setBanks_freeIndex (v : Banks) : (s.setBanks v).freeIndex = s.freeIndex := rfl
@[simp] theorem setBanks_pending (v : Banks) : (s.setBanks v).pending = s.pending := rfl
@[simp] theorem setBanks_self : s.setBanks s.banks = s := rfl
@[simp] theorem setBanks_twice (v w : Banks) : (s.setBanks v).setBanks w = s.setBanks w := rfl

@[simp] theorem setLoads_decoder (v : Loads) : (s.setLoads v).decoder = s.decoder := rfl
@[simp] theorem setLoads_tags (v : Loads) : (s.setLoads v).tags = s.tags := rfl
@[simp] theorem setLoads_trail (v : Loads) : (s.setLoads v).trail = s.trail := rfl
@[simp] theorem setLoads_corr (v : Loads) : (s.setLoads v).corr = s.corr := rfl
@[simp] theorem setLoads_hitSet (v : Loads) : (s.setLoads v).hitSet = s.hitSet := rfl
@[simp] theorem setLoads_resolver (v : Loads) : (s.setLoads v).resolver = s.resolver := rfl
@[simp] theorem setLoads_pen (v : Loads) : (s.setLoads v).pen = s.pen := rfl
@[simp] theorem setLoads_tracking (v : Loads) : (s.setLoads v).tracking = s.tracking := rfl
@[simp] theorem setLoads_overlay (v : Loads) : (s.setLoads v).overlay = s.overlay := rfl
@[simp] theorem setLoads_banks (v : Loads) : (s.setLoads v).banks = s.banks := rfl
@[simp] theorem setLoads_loads (v : Loads) : (s.setLoads v).loads = v := rfl
@[simp] theorem setLoads_orders (v : Loads) : (s.setLoads v).orders = s.orders := rfl
@[simp] theorem setLoads_lane (v : Loads) : (s.setLoads v).lane = s.lane := rfl
@[simp] theorem setLoads_pins (v : Loads) : (s.setLoads v).pins = s.pins := rfl
@[simp] theorem setLoads_resetLow (v : Loads) : (s.setLoads v).resetLow = s.resetLow := rfl
@[simp] theorem setLoads_portLine (v : Loads) : (s.setLoads v).portLine = s.portLine := rfl
@[simp] theorem setLoads_lowArrivals (v : Loads) : (s.setLoads v).lowArrivals = s.lowArrivals := rfl
@[simp] theorem setLoads_freeIndex (v : Loads) : (s.setLoads v).freeIndex = s.freeIndex := rfl
@[simp] theorem setLoads_pending (v : Loads) : (s.setLoads v).pending = s.pending := rfl
@[simp] theorem setLoads_self : s.setLoads s.loads = s := rfl
@[simp] theorem setLoads_twice (v w : Loads) : (s.setLoads v).setLoads w = s.setLoads w := rfl

@[simp] theorem setOrders_decoder (v : OrderUnit) : (s.setOrders v).decoder = s.decoder := rfl
@[simp] theorem setOrders_tags (v : OrderUnit) : (s.setOrders v).tags = s.tags := rfl
@[simp] theorem setOrders_trail (v : OrderUnit) : (s.setOrders v).trail = s.trail := rfl
@[simp] theorem setOrders_corr (v : OrderUnit) : (s.setOrders v).corr = s.corr := rfl
@[simp] theorem setOrders_hitSet (v : OrderUnit) : (s.setOrders v).hitSet = s.hitSet := rfl
@[simp] theorem setOrders_resolver (v : OrderUnit) : (s.setOrders v).resolver = s.resolver := rfl
@[simp] theorem setOrders_pen (v : OrderUnit) : (s.setOrders v).pen = s.pen := rfl
@[simp] theorem setOrders_tracking (v : OrderUnit) : (s.setOrders v).tracking = s.tracking := rfl
@[simp] theorem setOrders_overlay (v : OrderUnit) : (s.setOrders v).overlay = s.overlay := rfl
@[simp] theorem setOrders_banks (v : OrderUnit) : (s.setOrders v).banks = s.banks := rfl
@[simp] theorem setOrders_loads (v : OrderUnit) : (s.setOrders v).loads = s.loads := rfl
@[simp] theorem setOrders_orders (v : OrderUnit) : (s.setOrders v).orders = v := rfl
@[simp] theorem setOrders_lane (v : OrderUnit) : (s.setOrders v).lane = s.lane := rfl
@[simp] theorem setOrders_pins (v : OrderUnit) : (s.setOrders v).pins = s.pins := rfl
@[simp] theorem setOrders_resetLow (v : OrderUnit) : (s.setOrders v).resetLow = s.resetLow := rfl
@[simp] theorem setOrders_portLine (v : OrderUnit) : (s.setOrders v).portLine = s.portLine := rfl
@[simp] theorem setOrders_lowArrivals (v : OrderUnit) : (s.setOrders v).lowArrivals = s.lowArrivals := rfl
@[simp] theorem setOrders_freeIndex (v : OrderUnit) : (s.setOrders v).freeIndex = s.freeIndex := rfl
@[simp] theorem setOrders_pending (v : OrderUnit) : (s.setOrders v).pending = s.pending := rfl
@[simp] theorem setOrders_self : s.setOrders s.orders = s := rfl
@[simp] theorem setOrders_twice (v w : OrderUnit) : (s.setOrders v).setOrders w = s.setOrders w := rfl

@[simp] theorem setLane_decoder (v : ReturnLane) : (s.setLane v).decoder = s.decoder := rfl
@[simp] theorem setLane_tags (v : ReturnLane) : (s.setLane v).tags = s.tags := rfl
@[simp] theorem setLane_trail (v : ReturnLane) : (s.setLane v).trail = s.trail := rfl
@[simp] theorem setLane_corr (v : ReturnLane) : (s.setLane v).corr = s.corr := rfl
@[simp] theorem setLane_hitSet (v : ReturnLane) : (s.setLane v).hitSet = s.hitSet := rfl
@[simp] theorem setLane_resolver (v : ReturnLane) : (s.setLane v).resolver = s.resolver := rfl
@[simp] theorem setLane_pen (v : ReturnLane) : (s.setLane v).pen = s.pen := rfl
@[simp] theorem setLane_tracking (v : ReturnLane) : (s.setLane v).tracking = s.tracking := rfl
@[simp] theorem setLane_overlay (v : ReturnLane) : (s.setLane v).overlay = s.overlay := rfl
@[simp] theorem setLane_banks (v : ReturnLane) : (s.setLane v).banks = s.banks := rfl
@[simp] theorem setLane_loads (v : ReturnLane) : (s.setLane v).loads = s.loads := rfl
@[simp] theorem setLane_orders (v : ReturnLane) : (s.setLane v).orders = s.orders := rfl
@[simp] theorem setLane_lane (v : ReturnLane) : (s.setLane v).lane = v := rfl
@[simp] theorem setLane_pins (v : ReturnLane) : (s.setLane v).pins = s.pins := rfl
@[simp] theorem setLane_resetLow (v : ReturnLane) : (s.setLane v).resetLow = s.resetLow := rfl
@[simp] theorem setLane_portLine (v : ReturnLane) : (s.setLane v).portLine = s.portLine := rfl
@[simp] theorem setLane_lowArrivals (v : ReturnLane) : (s.setLane v).lowArrivals = s.lowArrivals := rfl
@[simp] theorem setLane_freeIndex (v : ReturnLane) : (s.setLane v).freeIndex = s.freeIndex := rfl
@[simp] theorem setLane_pending (v : ReturnLane) : (s.setLane v).pending = s.pending := rfl
@[simp] theorem setLane_self : s.setLane s.lane = s := rfl
@[simp] theorem setLane_twice (v w : ReturnLane) : (s.setLane v).setLane w = s.setLane w := rfl

@[simp] theorem setPins_decoder (v : Pins) : (s.setPins v).decoder = s.decoder := rfl
@[simp] theorem setPins_tags (v : Pins) : (s.setPins v).tags = s.tags := rfl
@[simp] theorem setPins_trail (v : Pins) : (s.setPins v).trail = s.trail := rfl
@[simp] theorem setPins_corr (v : Pins) : (s.setPins v).corr = s.corr := rfl
@[simp] theorem setPins_hitSet (v : Pins) : (s.setPins v).hitSet = s.hitSet := rfl
@[simp] theorem setPins_resolver (v : Pins) : (s.setPins v).resolver = s.resolver := rfl
@[simp] theorem setPins_pen (v : Pins) : (s.setPins v).pen = s.pen := rfl
@[simp] theorem setPins_tracking (v : Pins) : (s.setPins v).tracking = s.tracking := rfl
@[simp] theorem setPins_overlay (v : Pins) : (s.setPins v).overlay = s.overlay := rfl
@[simp] theorem setPins_banks (v : Pins) : (s.setPins v).banks = s.banks := rfl
@[simp] theorem setPins_loads (v : Pins) : (s.setPins v).loads = s.loads := rfl
@[simp] theorem setPins_orders (v : Pins) : (s.setPins v).orders = s.orders := rfl
@[simp] theorem setPins_lane (v : Pins) : (s.setPins v).lane = s.lane := rfl
@[simp] theorem setPins_pins (v : Pins) : (s.setPins v).pins = v := rfl
@[simp] theorem setPins_resetLow (v : Pins) : (s.setPins v).resetLow = s.resetLow := rfl
@[simp] theorem setPins_portLine (v : Pins) : (s.setPins v).portLine = s.portLine := rfl
@[simp] theorem setPins_lowArrivals (v : Pins) : (s.setPins v).lowArrivals = s.lowArrivals := rfl
@[simp] theorem setPins_freeIndex (v : Pins) : (s.setPins v).freeIndex = s.freeIndex := rfl
@[simp] theorem setPins_pending (v : Pins) : (s.setPins v).pending = s.pending := rfl
@[simp] theorem setPins_self : s.setPins s.pins = s := rfl
@[simp] theorem setPins_twice (v w : Pins) : (s.setPins v).setPins w = s.setPins w := rfl

@[simp] theorem setResetLow_decoder (v : Bool) : (s.setResetLow v).decoder = s.decoder := rfl
@[simp] theorem setResetLow_tags (v : Bool) : (s.setResetLow v).tags = s.tags := rfl
@[simp] theorem setResetLow_trail (v : Bool) : (s.setResetLow v).trail = s.trail := rfl
@[simp] theorem setResetLow_corr (v : Bool) : (s.setResetLow v).corr = s.corr := rfl
@[simp] theorem setResetLow_hitSet (v : Bool) : (s.setResetLow v).hitSet = s.hitSet := rfl
@[simp] theorem setResetLow_resolver (v : Bool) : (s.setResetLow v).resolver = s.resolver := rfl
@[simp] theorem setResetLow_pen (v : Bool) : (s.setResetLow v).pen = s.pen := rfl
@[simp] theorem setResetLow_tracking (v : Bool) : (s.setResetLow v).tracking = s.tracking := rfl
@[simp] theorem setResetLow_overlay (v : Bool) : (s.setResetLow v).overlay = s.overlay := rfl
@[simp] theorem setResetLow_banks (v : Bool) : (s.setResetLow v).banks = s.banks := rfl
@[simp] theorem setResetLow_loads (v : Bool) : (s.setResetLow v).loads = s.loads := rfl
@[simp] theorem setResetLow_orders (v : Bool) : (s.setResetLow v).orders = s.orders := rfl
@[simp] theorem setResetLow_lane (v : Bool) : (s.setResetLow v).lane = s.lane := rfl
@[simp] theorem setResetLow_pins (v : Bool) : (s.setResetLow v).pins = s.pins := rfl
@[simp] theorem setResetLow_resetLow (v : Bool) : (s.setResetLow v).resetLow = v := rfl
@[simp] theorem setResetLow_portLine (v : Bool) : (s.setResetLow v).portLine = s.portLine := rfl
@[simp] theorem setResetLow_lowArrivals (v : Bool) : (s.setResetLow v).lowArrivals = s.lowArrivals := rfl
@[simp] theorem setResetLow_freeIndex (v : Bool) : (s.setResetLow v).freeIndex = s.freeIndex := rfl
@[simp] theorem setResetLow_pending (v : Bool) : (s.setResetLow v).pending = s.pending := rfl
@[simp] theorem setResetLow_self : s.setResetLow s.resetLow = s := rfl
@[simp] theorem setResetLow_twice (v w : Bool) : (s.setResetLow v).setResetLow w = s.setResetLow w := rfl

@[simp] theorem setPortLine_decoder (v : List Instr) : (s.setPortLine v).decoder = s.decoder := rfl
@[simp] theorem setPortLine_tags (v : List Instr) : (s.setPortLine v).tags = s.tags := rfl
@[simp] theorem setPortLine_trail (v : List Instr) : (s.setPortLine v).trail = s.trail := rfl
@[simp] theorem setPortLine_corr (v : List Instr) : (s.setPortLine v).corr = s.corr := rfl
@[simp] theorem setPortLine_hitSet (v : List Instr) : (s.setPortLine v).hitSet = s.hitSet := rfl
@[simp] theorem setPortLine_resolver (v : List Instr) : (s.setPortLine v).resolver = s.resolver := rfl
@[simp] theorem setPortLine_pen (v : List Instr) : (s.setPortLine v).pen = s.pen := rfl
@[simp] theorem setPortLine_tracking (v : List Instr) : (s.setPortLine v).tracking = s.tracking := rfl
@[simp] theorem setPortLine_overlay (v : List Instr) : (s.setPortLine v).overlay = s.overlay := rfl
@[simp] theorem setPortLine_banks (v : List Instr) : (s.setPortLine v).banks = s.banks := rfl
@[simp] theorem setPortLine_loads (v : List Instr) : (s.setPortLine v).loads = s.loads := rfl
@[simp] theorem setPortLine_orders (v : List Instr) : (s.setPortLine v).orders = s.orders := rfl
@[simp] theorem setPortLine_lane (v : List Instr) : (s.setPortLine v).lane = s.lane := rfl
@[simp] theorem setPortLine_pins (v : List Instr) : (s.setPortLine v).pins = s.pins := rfl
@[simp] theorem setPortLine_resetLow (v : List Instr) : (s.setPortLine v).resetLow = s.resetLow := rfl
@[simp] theorem setPortLine_portLine (v : List Instr) : (s.setPortLine v).portLine = v := rfl
@[simp] theorem setPortLine_lowArrivals (v : List Instr) : (s.setPortLine v).lowArrivals = s.lowArrivals := rfl
@[simp] theorem setPortLine_freeIndex (v : List Instr) : (s.setPortLine v).freeIndex = s.freeIndex := rfl
@[simp] theorem setPortLine_pending (v : List Instr) : (s.setPortLine v).pending = s.pending := rfl
@[simp] theorem setPortLine_self : s.setPortLine s.portLine = s := rfl
@[simp] theorem setPortLine_twice (v w : List Instr) : (s.setPortLine v).setPortLine w = s.setPortLine w := rfl

@[simp] theorem setLowArrivals_decoder (v : List Instr) : (s.setLowArrivals v).decoder = s.decoder := rfl
@[simp] theorem setLowArrivals_tags (v : List Instr) : (s.setLowArrivals v).tags = s.tags := rfl
@[simp] theorem setLowArrivals_trail (v : List Instr) : (s.setLowArrivals v).trail = s.trail := rfl
@[simp] theorem setLowArrivals_corr (v : List Instr) : (s.setLowArrivals v).corr = s.corr := rfl
@[simp] theorem setLowArrivals_hitSet (v : List Instr) : (s.setLowArrivals v).hitSet = s.hitSet := rfl
@[simp] theorem setLowArrivals_resolver (v : List Instr) : (s.setLowArrivals v).resolver = s.resolver := rfl
@[simp] theorem setLowArrivals_pen (v : List Instr) : (s.setLowArrivals v).pen = s.pen := rfl
@[simp] theorem setLowArrivals_tracking (v : List Instr) : (s.setLowArrivals v).tracking = s.tracking := rfl
@[simp] theorem setLowArrivals_overlay (v : List Instr) : (s.setLowArrivals v).overlay = s.overlay := rfl
@[simp] theorem setLowArrivals_banks (v : List Instr) : (s.setLowArrivals v).banks = s.banks := rfl
@[simp] theorem setLowArrivals_loads (v : List Instr) : (s.setLowArrivals v).loads = s.loads := rfl
@[simp] theorem setLowArrivals_orders (v : List Instr) : (s.setLowArrivals v).orders = s.orders := rfl
@[simp] theorem setLowArrivals_lane (v : List Instr) : (s.setLowArrivals v).lane = s.lane := rfl
@[simp] theorem setLowArrivals_pins (v : List Instr) : (s.setLowArrivals v).pins = s.pins := rfl
@[simp] theorem setLowArrivals_resetLow (v : List Instr) : (s.setLowArrivals v).resetLow = s.resetLow := rfl
@[simp] theorem setLowArrivals_portLine (v : List Instr) : (s.setLowArrivals v).portLine = s.portLine := rfl
@[simp] theorem setLowArrivals_lowArrivals (v : List Instr) : (s.setLowArrivals v).lowArrivals = v := rfl
@[simp] theorem setLowArrivals_freeIndex (v : List Instr) : (s.setLowArrivals v).freeIndex = s.freeIndex := rfl
@[simp] theorem setLowArrivals_pending (v : List Instr) : (s.setLowArrivals v).pending = s.pending := rfl
@[simp] theorem setLowArrivals_self : s.setLowArrivals s.lowArrivals = s := rfl
@[simp] theorem setLowArrivals_twice (v w : List Instr) : (s.setLowArrivals v).setLowArrivals w = s.setLowArrivals w := rfl

@[simp] theorem setFreeIndex_decoder (v : Nat) : (s.setFreeIndex v).decoder = s.decoder := rfl
@[simp] theorem setFreeIndex_tags (v : Nat) : (s.setFreeIndex v).tags = s.tags := rfl
@[simp] theorem setFreeIndex_trail (v : Nat) : (s.setFreeIndex v).trail = s.trail := rfl
@[simp] theorem setFreeIndex_corr (v : Nat) : (s.setFreeIndex v).corr = s.corr := rfl
@[simp] theorem setFreeIndex_hitSet (v : Nat) : (s.setFreeIndex v).hitSet = s.hitSet := rfl
@[simp] theorem setFreeIndex_resolver (v : Nat) : (s.setFreeIndex v).resolver = s.resolver := rfl
@[simp] theorem setFreeIndex_pen (v : Nat) : (s.setFreeIndex v).pen = s.pen := rfl
@[simp] theorem setFreeIndex_tracking (v : Nat) : (s.setFreeIndex v).tracking = s.tracking := rfl
@[simp] theorem setFreeIndex_overlay (v : Nat) : (s.setFreeIndex v).overlay = s.overlay := rfl
@[simp] theorem setFreeIndex_banks (v : Nat) : (s.setFreeIndex v).banks = s.banks := rfl
@[simp] theorem setFreeIndex_loads (v : Nat) : (s.setFreeIndex v).loads = s.loads := rfl
@[simp] theorem setFreeIndex_orders (v : Nat) : (s.setFreeIndex v).orders = s.orders := rfl
@[simp] theorem setFreeIndex_lane (v : Nat) : (s.setFreeIndex v).lane = s.lane := rfl
@[simp] theorem setFreeIndex_pins (v : Nat) : (s.setFreeIndex v).pins = s.pins := rfl
@[simp] theorem setFreeIndex_resetLow (v : Nat) : (s.setFreeIndex v).resetLow = s.resetLow := rfl
@[simp] theorem setFreeIndex_portLine (v : Nat) : (s.setFreeIndex v).portLine = s.portLine := rfl
@[simp] theorem setFreeIndex_lowArrivals (v : Nat) : (s.setFreeIndex v).lowArrivals = s.lowArrivals := rfl
@[simp] theorem setFreeIndex_freeIndex (v : Nat) : (s.setFreeIndex v).freeIndex = v := rfl
@[simp] theorem setFreeIndex_pending (v : Nat) : (s.setFreeIndex v).pending = s.pending := rfl
@[simp] theorem setFreeIndex_self : s.setFreeIndex s.freeIndex = s := rfl
@[simp] theorem setFreeIndex_twice (v w : Nat) : (s.setFreeIndex v).setFreeIndex w = s.setFreeIndex w := rfl

@[simp] theorem setPending_decoder (v : List Instr) : (s.setPending v).decoder = s.decoder := rfl
@[simp] theorem setPending_tags (v : List Instr) : (s.setPending v).tags = s.tags := rfl
@[simp] theorem setPending_trail (v : List Instr) : (s.setPending v).trail = s.trail := rfl
@[simp] theorem setPending_corr (v : List Instr) : (s.setPending v).corr = s.corr := rfl
@[simp] theorem setPending_hitSet (v : List Instr) : (s.setPending v).hitSet = s.hitSet := rfl
@[simp] theorem setPending_resolver (v : List Instr) : (s.setPending v).resolver = s.resolver := rfl
@[simp] theorem setPending_pen (v : List Instr) : (s.setPending v).pen = s.pen := rfl
@[simp] theorem setPending_tracking (v : List Instr) : (s.setPending v).tracking = s.tracking := rfl
@[simp] theorem setPending_overlay (v : List Instr) : (s.setPending v).overlay = s.overlay := rfl
@[simp] theorem setPending_banks (v : List Instr) : (s.setPending v).banks = s.banks := rfl
@[simp] theorem setPending_loads (v : List Instr) : (s.setPending v).loads = s.loads := rfl
@[simp] theorem setPending_orders (v : List Instr) : (s.setPending v).orders = s.orders := rfl
@[simp] theorem setPending_lane (v : List Instr) : (s.setPending v).lane = s.lane := rfl
@[simp] theorem setPending_pins (v : List Instr) : (s.setPending v).pins = s.pins := rfl
@[simp] theorem setPending_resetLow (v : List Instr) : (s.setPending v).resetLow = s.resetLow := rfl
@[simp] theorem setPending_portLine (v : List Instr) : (s.setPending v).portLine = s.portLine := rfl
@[simp] theorem setPending_lowArrivals (v : List Instr) : (s.setPending v).lowArrivals = s.lowArrivals := rfl
@[simp] theorem setPending_freeIndex (v : List Instr) : (s.setPending v).freeIndex = s.freeIndex := rfl
@[simp] theorem setPending_pending (v : List Instr) : (s.setPending v).pending = v := rfl
@[simp] theorem setPending_self : s.setPending s.pending = s := rfl
@[simp] theorem setPending_twice (v w : List Instr) : (s.setPending v).setPending w = s.setPending w := rfl

end Sys2Proof.Machine.State
end

