-- ==== Sys2Proof/Laws/Frames.lean ====
section
/-! SUPPORT. The frames of the shared operations: which blocks' state each may change, and, field by field,
what it leaves as it was. -/

namespace Sys2Proof.Machine

@[simp] theorem enqueue_decoder (r : Report) (s : State) :
    (enqueue r s).decoder = s.decoder := by unfold enqueue; rfl
@[simp] theorem enqueue_tags (r : Report) (s : State) :
    (enqueue r s).tags = s.tags := by unfold enqueue; rfl
@[simp] theorem enqueue_trail (r : Report) (s : State) :
    (enqueue r s).trail = s.trail := by unfold enqueue; rfl
@[simp] theorem enqueue_corr (r : Report) (s : State) :
    (enqueue r s).corr = s.corr := by unfold enqueue; rfl
@[simp] theorem enqueue_hitSet (r : Report) (s : State) :
    (enqueue r s).hitSet = s.hitSet := by unfold enqueue; rfl
@[simp] theorem enqueue_resolver (r : Report) (s : State) :
    (enqueue r s).resolver = s.resolver := by unfold enqueue; rfl
@[simp] theorem enqueue_pen (r : Report) (s : State) :
    (enqueue r s).pen = s.pen := by unfold enqueue; rfl
@[simp] theorem enqueue_tracking (r : Report) (s : State) :
    (enqueue r s).tracking = s.tracking := by unfold enqueue; rfl
@[simp] theorem enqueue_overlay (r : Report) (s : State) :
    (enqueue r s).overlay = s.overlay := by unfold enqueue; rfl
@[simp] theorem enqueue_banks (r : Report) (s : State) :
    (enqueue r s).banks = s.banks := by unfold enqueue; rfl
@[simp] theorem enqueue_loads (r : Report) (s : State) :
    (enqueue r s).loads = s.loads := by unfold enqueue; rfl
@[simp] theorem enqueue_orders (r : Report) (s : State) :
    (enqueue r s).orders = s.orders := by unfold enqueue; rfl
@[simp] theorem enqueue_pins (r : Report) (s : State) :
    (enqueue r s).pins = s.pins := by unfold enqueue; rfl
@[simp] theorem enqueue_resetLow (r : Report) (s : State) :
    (enqueue r s).resetLow = s.resetLow := by unfold enqueue; rfl
@[simp] theorem enqueue_portLine (r : Report) (s : State) :
    (enqueue r s).portLine = s.portLine := by unfold enqueue; rfl
@[simp] theorem enqueue_lowArrivals (r : Report) (s : State) :
    (enqueue r s).lowArrivals = s.lowArrivals := by unfold enqueue; rfl
@[simp] theorem enqueue_freeIndex (r : Report) (s : State) :
    (enqueue r s).freeIndex = s.freeIndex := by unfold enqueue; rfl
@[simp] theorem enqueue_pending (r : Report) (s : State) :
    (enqueue r s).pending = s.pending := by unfold enqueue; rfl

@[simp] theorem enqueueBlocks_decoder (bs : List (List Report)) (s : State) :
    (enqueueBlocks bs s).decoder = s.decoder := by unfold enqueueBlocks; rfl
@[simp] theorem enqueueBlocks_tags (bs : List (List Report)) (s : State) :
    (enqueueBlocks bs s).tags = s.tags := by unfold enqueueBlocks; rfl
@[simp] theorem enqueueBlocks_trail (bs : List (List Report)) (s : State) :
    (enqueueBlocks bs s).trail = s.trail := by unfold enqueueBlocks; rfl
@[simp] theorem enqueueBlocks_corr (bs : List (List Report)) (s : State) :
    (enqueueBlocks bs s).corr = s.corr := by unfold enqueueBlocks; rfl
@[simp] theorem enqueueBlocks_hitSet (bs : List (List Report)) (s : State) :
    (enqueueBlocks bs s).hitSet = s.hitSet := by unfold enqueueBlocks; rfl
@[simp] theorem enqueueBlocks_resolver (bs : List (List Report)) (s : State) :
    (enqueueBlocks bs s).resolver = s.resolver := by unfold enqueueBlocks; rfl
@[simp] theorem enqueueBlocks_pen (bs : List (List Report)) (s : State) :
    (enqueueBlocks bs s).pen = s.pen := by unfold enqueueBlocks; rfl
@[simp] theorem enqueueBlocks_tracking (bs : List (List Report)) (s : State) :
    (enqueueBlocks bs s).tracking = s.tracking := by unfold enqueueBlocks; rfl
@[simp] theorem enqueueBlocks_overlay (bs : List (List Report)) (s : State) :
    (enqueueBlocks bs s).overlay = s.overlay := by unfold enqueueBlocks; rfl
@[simp] theorem enqueueBlocks_banks (bs : List (List Report)) (s : State) :
    (enqueueBlocks bs s).banks = s.banks := by unfold enqueueBlocks; rfl
@[simp] theorem enqueueBlocks_loads (bs : List (List Report)) (s : State) :
    (enqueueBlocks bs s).loads = s.loads := by unfold enqueueBlocks; rfl
@[simp] theorem enqueueBlocks_orders (bs : List (List Report)) (s : State) :
    (enqueueBlocks bs s).orders = s.orders := by unfold enqueueBlocks; rfl
@[simp] theorem enqueueBlocks_pins (bs : List (List Report)) (s : State) :
    (enqueueBlocks bs s).pins = s.pins := by unfold enqueueBlocks; rfl
@[simp] theorem enqueueBlocks_resetLow (bs : List (List Report)) (s : State) :
    (enqueueBlocks bs s).resetLow = s.resetLow := by unfold enqueueBlocks; rfl
@[simp] theorem enqueueBlocks_portLine (bs : List (List Report)) (s : State) :
    (enqueueBlocks bs s).portLine = s.portLine := by unfold enqueueBlocks; rfl
@[simp] theorem enqueueBlocks_lowArrivals (bs : List (List Report)) (s : State) :
    (enqueueBlocks bs s).lowArrivals = s.lowArrivals := by unfold enqueueBlocks; rfl
@[simp] theorem enqueueBlocks_pending (bs : List (List Report)) (s : State) :
    (enqueueBlocks bs s).pending = s.pending := by unfold enqueueBlocks; rfl

@[simp] theorem countWith_decoder (f : Counters → Counters) (s : State) :
    (countWith f s).decoder = s.decoder := by unfold countWith; rfl
@[simp] theorem countWith_tags (f : Counters → Counters) (s : State) :
    (countWith f s).tags = s.tags := by unfold countWith; rfl
@[simp] theorem countWith_trail (f : Counters → Counters) (s : State) :
    (countWith f s).trail = s.trail := by unfold countWith; rfl
@[simp] theorem countWith_hitSet (f : Counters → Counters) (s : State) :
    (countWith f s).hitSet = s.hitSet := by unfold countWith; rfl
@[simp] theorem countWith_resolver (f : Counters → Counters) (s : State) :
    (countWith f s).resolver = s.resolver := by unfold countWith; rfl
@[simp] theorem countWith_pen (f : Counters → Counters) (s : State) :
    (countWith f s).pen = s.pen := by unfold countWith; rfl
@[simp] theorem countWith_tracking (f : Counters → Counters) (s : State) :
    (countWith f s).tracking = s.tracking := by unfold countWith; rfl
@[simp] theorem countWith_overlay (f : Counters → Counters) (s : State) :
    (countWith f s).overlay = s.overlay := by unfold countWith; rfl
@[simp] theorem countWith_banks (f : Counters → Counters) (s : State) :
    (countWith f s).banks = s.banks := by unfold countWith; rfl
@[simp] theorem countWith_loads (f : Counters → Counters) (s : State) :
    (countWith f s).loads = s.loads := by unfold countWith; rfl
@[simp] theorem countWith_orders (f : Counters → Counters) (s : State) :
    (countWith f s).orders = s.orders := by unfold countWith; rfl
@[simp] theorem countWith_lane (f : Counters → Counters) (s : State) :
    (countWith f s).lane = s.lane := by unfold countWith; rfl
@[simp] theorem countWith_pins (f : Counters → Counters) (s : State) :
    (countWith f s).pins = s.pins := by unfold countWith; rfl
@[simp] theorem countWith_resetLow (f : Counters → Counters) (s : State) :
    (countWith f s).resetLow = s.resetLow := by unfold countWith; rfl
@[simp] theorem countWith_portLine (f : Counters → Counters) (s : State) :
    (countWith f s).portLine = s.portLine := by unfold countWith; rfl
@[simp] theorem countWith_lowArrivals (f : Counters → Counters) (s : State) :
    (countWith f s).lowArrivals = s.lowArrivals := by unfold countWith; rfl
@[simp] theorem countWith_freeIndex (f : Counters → Counters) (s : State) :
    (countWith f s).freeIndex = s.freeIndex := by unfold countWith; rfl
@[simp] theorem countWith_pending (f : Counters → Counters) (s : State) :
    (countWith f s).pending = s.pending := by unfold countWith; rfl

@[simp] theorem tagFaults_decoder (k : Nat) (s : State) :
    (tagFaults k s).decoder = s.decoder := by unfold tagFaults; rfl
@[simp] theorem tagFaults_tags (k : Nat) (s : State) :
    (tagFaults k s).tags = s.tags := by unfold tagFaults; rfl
@[simp] theorem tagFaults_trail (k : Nat) (s : State) :
    (tagFaults k s).trail = s.trail := by unfold tagFaults; rfl
@[simp] theorem tagFaults_hitSet (k : Nat) (s : State) :
    (tagFaults k s).hitSet = s.hitSet := by unfold tagFaults; rfl
@[simp] theorem tagFaults_resolver (k : Nat) (s : State) :
    (tagFaults k s).resolver = s.resolver := by unfold tagFaults; rfl
@[simp] theorem tagFaults_pen (k : Nat) (s : State) :
    (tagFaults k s).pen = s.pen := by unfold tagFaults; rfl
@[simp] theorem tagFaults_tracking (k : Nat) (s : State) :
    (tagFaults k s).tracking = s.tracking := by unfold tagFaults; rfl
@[simp] theorem tagFaults_overlay (k : Nat) (s : State) :
    (tagFaults k s).overlay = s.overlay := by unfold tagFaults; rfl
@[simp] theorem tagFaults_banks (k : Nat) (s : State) :
    (tagFaults k s).banks = s.banks := by unfold tagFaults; rfl
@[simp] theorem tagFaults_loads (k : Nat) (s : State) :
    (tagFaults k s).loads = s.loads := by unfold tagFaults; rfl
@[simp] theorem tagFaults_orders (k : Nat) (s : State) :
    (tagFaults k s).orders = s.orders := by unfold tagFaults; rfl
@[simp] theorem tagFaults_lane (k : Nat) (s : State) :
    (tagFaults k s).lane = s.lane := by unfold tagFaults; rfl
@[simp] theorem tagFaults_pins (k : Nat) (s : State) :
    (tagFaults k s).pins = s.pins := by unfold tagFaults; rfl
@[simp] theorem tagFaults_resetLow (k : Nat) (s : State) :
    (tagFaults k s).resetLow = s.resetLow := by unfold tagFaults; rfl
@[simp] theorem tagFaults_portLine (k : Nat) (s : State) :
    (tagFaults k s).portLine = s.portLine := by unfold tagFaults; rfl
@[simp] theorem tagFaults_lowArrivals (k : Nat) (s : State) :
    (tagFaults k s).lowArrivals = s.lowArrivals := by unfold tagFaults; rfl
@[simp] theorem tagFaults_freeIndex (k : Nat) (s : State) :
    (tagFaults k s).freeIndex = s.freeIndex := by unfold tagFaults; rfl
@[simp] theorem tagFaults_pending (k : Nat) (s : State) :
    (tagFaults k s).pending = s.pending := by unfold tagFaults; rfl

@[simp] theorem issue_tags (it : Item) (o : Origin) (s : State) :
    (issue it o s).tags = s.tags := by unfold issue; rfl
@[simp] theorem issue_corr (it : Item) (o : Origin) (s : State) :
    (issue it o s).corr = s.corr := by unfold issue; rfl
@[simp] theorem issue_hitSet (it : Item) (o : Origin) (s : State) :
    (issue it o s).hitSet = s.hitSet := by unfold issue; rfl
@[simp] theorem issue_resolver (it : Item) (o : Origin) (s : State) :
    (issue it o s).resolver = s.resolver := by unfold issue; rfl
@[simp] theorem issue_pen (it : Item) (o : Origin) (s : State) :
    (issue it o s).pen = s.pen := by unfold issue; rfl
@[simp] theorem issue_tracking (it : Item) (o : Origin) (s : State) :
    (issue it o s).tracking = s.tracking := by unfold issue; rfl
@[simp] theorem issue_overlay (it : Item) (o : Origin) (s : State) :
    (issue it o s).overlay = s.overlay := by unfold issue; rfl
@[simp] theorem issue_banks (it : Item) (o : Origin) (s : State) :
    (issue it o s).banks = s.banks := by unfold issue; rfl
@[simp] theorem issue_loads (it : Item) (o : Origin) (s : State) :
    (issue it o s).loads = s.loads := by unfold issue; rfl
@[simp] theorem issue_orders (it : Item) (o : Origin) (s : State) :
    (issue it o s).orders = s.orders := by unfold issue; rfl
@[simp] theorem issue_lane (it : Item) (o : Origin) (s : State) :
    (issue it o s).lane = s.lane := by unfold issue; rfl
@[simp] theorem issue_pins (it : Item) (o : Origin) (s : State) :
    (issue it o s).pins = s.pins := by unfold issue; rfl
@[simp] theorem issue_resetLow (it : Item) (o : Origin) (s : State) :
    (issue it o s).resetLow = s.resetLow := by unfold issue; rfl
@[simp] theorem issue_portLine (it : Item) (o : Origin) (s : State) :
    (issue it o s).portLine = s.portLine := by unfold issue; rfl
@[simp] theorem issue_lowArrivals (it : Item) (o : Origin) (s : State) :
    (issue it o s).lowArrivals = s.lowArrivals := by unfold issue; rfl
@[simp] theorem issue_freeIndex (it : Item) (o : Origin) (s : State) :
    (issue it o s).freeIndex = s.freeIndex := by unfold issue; rfl
@[simp] theorem issue_pending (it : Item) (o : Origin) (s : State) :
    (issue it o s).pending = s.pending := by unfold issue; rfl

@[simp] theorem clearArmed_decoder (s : State) :
    (clearArmed s).decoder = s.decoder := by unfold clearArmed; rfl
@[simp] theorem clearArmed_tags (s : State) :
    (clearArmed s).tags = s.tags := by unfold clearArmed; rfl
@[simp] theorem clearArmed_trail (s : State) :
    (clearArmed s).trail = s.trail := by unfold clearArmed; rfl
@[simp] theorem clearArmed_corr (s : State) :
    (clearArmed s).corr = s.corr := by unfold clearArmed; rfl
@[simp] theorem clearArmed_hitSet (s : State) :
    (clearArmed s).hitSet = s.hitSet := by unfold clearArmed; rfl
@[simp] theorem clearArmed_resolver (s : State) :
    (clearArmed s).resolver = s.resolver := by unfold clearArmed; rfl
@[simp] theorem clearArmed_pen (s : State) :
    (clearArmed s).pen = s.pen := by unfold clearArmed; rfl
@[simp] theorem clearArmed_tracking (s : State) :
    (clearArmed s).tracking = s.tracking := by unfold clearArmed; rfl
@[simp] theorem clearArmed_overlay (s : State) :
    (clearArmed s).overlay = s.overlay := by unfold clearArmed; rfl
@[simp] theorem clearArmed_banks (s : State) :
    (clearArmed s).banks = s.banks := by unfold clearArmed; rfl
@[simp] theorem clearArmed_loads (s : State) :
    (clearArmed s).loads = s.loads := by unfold clearArmed; rfl
@[simp] theorem clearArmed_lane (s : State) :
    (clearArmed s).lane = s.lane := by unfold clearArmed; rfl
@[simp] theorem clearArmed_pins (s : State) :
    (clearArmed s).pins = s.pins := by unfold clearArmed; rfl
@[simp] theorem clearArmed_resetLow (s : State) :
    (clearArmed s).resetLow = s.resetLow := by unfold clearArmed; rfl
@[simp] theorem clearArmed_portLine (s : State) :
    (clearArmed s).portLine = s.portLine := by unfold clearArmed; rfl
@[simp] theorem clearArmed_lowArrivals (s : State) :
    (clearArmed s).lowArrivals = s.lowArrivals := by unfold clearArmed; rfl
@[simp] theorem clearArmed_freeIndex (s : State) :
    (clearArmed s).freeIndex = s.freeIndex := by unfold clearArmed; rfl
@[simp] theorem clearArmed_pending (s : State) :
    (clearArmed s).pending = s.pending := by unfold clearArmed; rfl

@[simp] theorem sighting_decoder (p : Point) (s : State) :
    (sighting p s).decoder = s.decoder := by unfold sighting; rfl
@[simp] theorem sighting_tags (p : Point) (s : State) :
    (sighting p s).tags = s.tags := by unfold sighting; rfl
@[simp] theorem sighting_trail (p : Point) (s : State) :
    (sighting p s).trail = s.trail := by unfold sighting; rfl
@[simp] theorem sighting_hitSet (p : Point) (s : State) :
    (sighting p s).hitSet = s.hitSet := by unfold sighting; rfl
@[simp] theorem sighting_resolver (p : Point) (s : State) :
    (sighting p s).resolver = s.resolver := by unfold sighting; rfl
@[simp] theorem sighting_pen (p : Point) (s : State) :
    (sighting p s).pen = s.pen := by unfold sighting; rfl
@[simp] theorem sighting_tracking (p : Point) (s : State) :
    (sighting p s).tracking = s.tracking := by unfold sighting; rfl
@[simp] theorem sighting_overlay (p : Point) (s : State) :
    (sighting p s).overlay = s.overlay := by unfold sighting; rfl
@[simp] theorem sighting_banks (p : Point) (s : State) :
    (sighting p s).banks = s.banks := by unfold sighting; rfl
@[simp] theorem sighting_loads (p : Point) (s : State) :
    (sighting p s).loads = s.loads := by unfold sighting; rfl
@[simp] theorem sighting_orders (p : Point) (s : State) :
    (sighting p s).orders = s.orders := by unfold sighting; rfl
@[simp] theorem sighting_lane (p : Point) (s : State) :
    (sighting p s).lane = s.lane := by unfold sighting; rfl
@[simp] theorem sighting_pins (p : Point) (s : State) :
    (sighting p s).pins = s.pins := by unfold sighting; rfl
@[simp] theorem sighting_resetLow (p : Point) (s : State) :
    (sighting p s).resetLow = s.resetLow := by unfold sighting; rfl
@[simp] theorem sighting_portLine (p : Point) (s : State) :
    (sighting p s).portLine = s.portLine := by unfold sighting; rfl
@[simp] theorem sighting_lowArrivals (p : Point) (s : State) :
    (sighting p s).lowArrivals = s.lowArrivals := by unfold sighting; rfl
@[simp] theorem sighting_freeIndex (p : Point) (s : State) :
    (sighting p s).freeIndex = s.freeIndex := by unfold sighting; rfl
@[simp] theorem sighting_pending (p : Point) (s : State) :
    (sighting p s).pending = s.pending := by unfold sighting; rfl

@[simp] theorem crossHit_decoder (a : Arm) (p : Point) (s : State) :
    (crossHit a p s).decoder = s.decoder := by unfold crossHit; rfl
@[simp] theorem crossHit_tags (a : Arm) (p : Point) (s : State) :
    (crossHit a p s).tags = s.tags := by unfold crossHit; rfl
@[simp] theorem crossHit_trail (a : Arm) (p : Point) (s : State) :
    (crossHit a p s).trail = s.trail := by unfold crossHit; rfl
@[simp] theorem crossHit_hitSet (a : Arm) (p : Point) (s : State) :
    (crossHit a p s).hitSet = s.hitSet := by unfold crossHit; rfl
@[simp] theorem crossHit_resolver (a : Arm) (p : Point) (s : State) :
    (crossHit a p s).resolver = s.resolver := by unfold crossHit; rfl
@[simp] theorem crossHit_pen (a : Arm) (p : Point) (s : State) :
    (crossHit a p s).pen = s.pen := by unfold crossHit; rfl
@[simp] theorem crossHit_tracking (a : Arm) (p : Point) (s : State) :
    (crossHit a p s).tracking = s.tracking := by unfold crossHit; rfl
@[simp] theorem crossHit_overlay (a : Arm) (p : Point) (s : State) :
    (crossHit a p s).overlay = s.overlay := by unfold crossHit; rfl
@[simp] theorem crossHit_banks (a : Arm) (p : Point) (s : State) :
    (crossHit a p s).banks = s.banks := by unfold crossHit; rfl
@[simp] theorem crossHit_loads (a : Arm) (p : Point) (s : State) :
    (crossHit a p s).loads = s.loads := by unfold crossHit; rfl
@[simp] theorem crossHit_orders (a : Arm) (p : Point) (s : State) :
    (crossHit a p s).orders = s.orders := by unfold crossHit; rfl
@[simp] theorem crossHit_lane (a : Arm) (p : Point) (s : State) :
    (crossHit a p s).lane = s.lane := by unfold crossHit; rfl
@[simp] theorem crossHit_pins (a : Arm) (p : Point) (s : State) :
    (crossHit a p s).pins = s.pins := by unfold crossHit; rfl
@[simp] theorem crossHit_resetLow (a : Arm) (p : Point) (s : State) :
    (crossHit a p s).resetLow = s.resetLow := by unfold crossHit; rfl
@[simp] theorem crossHit_portLine (a : Arm) (p : Point) (s : State) :
    (crossHit a p s).portLine = s.portLine := by unfold crossHit; rfl
@[simp] theorem crossHit_lowArrivals (a : Arm) (p : Point) (s : State) :
    (crossHit a p s).lowArrivals = s.lowArrivals := by unfold crossHit; rfl
@[simp] theorem crossHit_freeIndex (a : Arm) (p : Point) (s : State) :
    (crossHit a p s).freeIndex = s.freeIndex := by unfold crossHit; rfl
@[simp] theorem crossHit_pending (a : Arm) (p : Point) (s : State) :
    (crossHit a p s).pending = s.pending := by unfold crossHit; rfl

@[simp] theorem ignoreHit_decoder (s : State) :
    (ignoreHit s).decoder = s.decoder := by unfold ignoreHit; rfl
@[simp] theorem ignoreHit_tags (s : State) :
    (ignoreHit s).tags = s.tags := by unfold ignoreHit; rfl
@[simp] theorem ignoreHit_trail (s : State) :
    (ignoreHit s).trail = s.trail := by unfold ignoreHit; rfl
@[simp] theorem ignoreHit_hitSet (s : State) :
    (ignoreHit s).hitSet = s.hitSet := by unfold ignoreHit; rfl
@[simp] theorem ignoreHit_resolver (s : State) :
    (ignoreHit s).resolver = s.resolver := by unfold ignoreHit; rfl
@[simp] theorem ignoreHit_pen (s : State) :
    (ignoreHit s).pen = s.pen := by unfold ignoreHit; rfl
@[simp] theorem ignoreHit_tracking (s : State) :
    (ignoreHit s).tracking = s.tracking := by unfold ignoreHit; rfl
@[simp] theorem ignoreHit_overlay (s : State) :
    (ignoreHit s).overlay = s.overlay := by unfold ignoreHit; rfl
@[simp] theorem ignoreHit_banks (s : State) :
    (ignoreHit s).banks = s.banks := by unfold ignoreHit; rfl
@[simp] theorem ignoreHit_loads (s : State) :
    (ignoreHit s).loads = s.loads := by unfold ignoreHit; rfl
@[simp] theorem ignoreHit_orders (s : State) :
    (ignoreHit s).orders = s.orders := by unfold ignoreHit; rfl
@[simp] theorem ignoreHit_lane (s : State) :
    (ignoreHit s).lane = s.lane := by unfold ignoreHit; rfl
@[simp] theorem ignoreHit_pins (s : State) :
    (ignoreHit s).pins = s.pins := by unfold ignoreHit; rfl
@[simp] theorem ignoreHit_resetLow (s : State) :
    (ignoreHit s).resetLow = s.resetLow := by unfold ignoreHit; rfl
@[simp] theorem ignoreHit_portLine (s : State) :
    (ignoreHit s).portLine = s.portLine := by unfold ignoreHit; rfl
@[simp] theorem ignoreHit_lowArrivals (s : State) :
    (ignoreHit s).lowArrivals = s.lowArrivals := by unfold ignoreHit; rfl
@[simp] theorem ignoreHit_freeIndex (s : State) :
    (ignoreHit s).freeIndex = s.freeIndex := by unfold ignoreHit; rfl
@[simp] theorem ignoreHit_pending (s : State) :
    (ignoreHit s).pending = s.pending := by unfold ignoreHit; rfl

@[simp] theorem staleHit_decoder (s : State) :
    (staleHit s).decoder = s.decoder := by unfold staleHit; rfl
@[simp] theorem staleHit_tags (s : State) :
    (staleHit s).tags = s.tags := by unfold staleHit; rfl
@[simp] theorem staleHit_trail (s : State) :
    (staleHit s).trail = s.trail := by unfold staleHit; rfl
@[simp] theorem staleHit_hitSet (s : State) :
    (staleHit s).hitSet = s.hitSet := by unfold staleHit; rfl
@[simp] theorem staleHit_resolver (s : State) :
    (staleHit s).resolver = s.resolver := by unfold staleHit; rfl
@[simp] theorem staleHit_pen (s : State) :
    (staleHit s).pen = s.pen := by unfold staleHit; rfl
@[simp] theorem staleHit_tracking (s : State) :
    (staleHit s).tracking = s.tracking := by unfold staleHit; rfl
@[simp] theorem staleHit_overlay (s : State) :
    (staleHit s).overlay = s.overlay := by unfold staleHit; rfl
@[simp] theorem staleHit_banks (s : State) :
    (staleHit s).banks = s.banks := by unfold staleHit; rfl
@[simp] theorem staleHit_loads (s : State) :
    (staleHit s).loads = s.loads := by unfold staleHit; rfl
@[simp] theorem staleHit_orders (s : State) :
    (staleHit s).orders = s.orders := by unfold staleHit; rfl
@[simp] theorem staleHit_lane (s : State) :
    (staleHit s).lane = s.lane := by unfold staleHit; rfl
@[simp] theorem staleHit_pins (s : State) :
    (staleHit s).pins = s.pins := by unfold staleHit; rfl
@[simp] theorem staleHit_resetLow (s : State) :
    (staleHit s).resetLow = s.resetLow := by unfold staleHit; rfl
@[simp] theorem staleHit_portLine (s : State) :
    (staleHit s).portLine = s.portLine := by unfold staleHit; rfl
@[simp] theorem staleHit_lowArrivals (s : State) :
    (staleHit s).lowArrivals = s.lowArrivals := by unfold staleHit; rfl
@[simp] theorem staleHit_freeIndex (s : State) :
    (staleHit s).freeIndex = s.freeIndex := by unfold staleHit; rfl
@[simp] theorem staleHit_pending (s : State) :
    (staleHit s).pending = s.pending := by unfold staleHit; rfl

@[simp] theorem countNotice_decoder (s : State) :
    (countNotice s).decoder = s.decoder := by unfold countNotice; rfl
@[simp] theorem countNotice_tags (s : State) :
    (countNotice s).tags = s.tags := by unfold countNotice; rfl
@[simp] theorem countNotice_trail (s : State) :
    (countNotice s).trail = s.trail := by unfold countNotice; rfl
@[simp] theorem countNotice_hitSet (s : State) :
    (countNotice s).hitSet = s.hitSet := by unfold countNotice; rfl
@[simp] theorem countNotice_resolver (s : State) :
    (countNotice s).resolver = s.resolver := by unfold countNotice; rfl
@[simp] theorem countNotice_pen (s : State) :
    (countNotice s).pen = s.pen := by unfold countNotice; rfl
@[simp] theorem countNotice_tracking (s : State) :
    (countNotice s).tracking = s.tracking := by unfold countNotice; rfl
@[simp] theorem countNotice_overlay (s : State) :
    (countNotice s).overlay = s.overlay := by unfold countNotice; rfl
@[simp] theorem countNotice_banks (s : State) :
    (countNotice s).banks = s.banks := by unfold countNotice; rfl
@[simp] theorem countNotice_loads (s : State) :
    (countNotice s).loads = s.loads := by unfold countNotice; rfl
@[simp] theorem countNotice_orders (s : State) :
    (countNotice s).orders = s.orders := by unfold countNotice; rfl
@[simp] theorem countNotice_lane (s : State) :
    (countNotice s).lane = s.lane := by unfold countNotice; rfl
@[simp] theorem countNotice_pins (s : State) :
    (countNotice s).pins = s.pins := by unfold countNotice; rfl
@[simp] theorem countNotice_resetLow (s : State) :
    (countNotice s).resetLow = s.resetLow := by unfold countNotice; rfl
@[simp] theorem countNotice_portLine (s : State) :
    (countNotice s).portLine = s.portLine := by unfold countNotice; rfl
@[simp] theorem countNotice_lowArrivals (s : State) :
    (countNotice s).lowArrivals = s.lowArrivals := by unfold countNotice; rfl
@[simp] theorem countNotice_freeIndex (s : State) :
    (countNotice s).freeIndex = s.freeIndex := by unfold countNotice; rfl
@[simp] theorem countNotice_pending (s : State) :
    (countNotice s).pending = s.pending := by unfold countNotice; rfl

@[simp] theorem countOpenTags_decoder (s : State) :
    (countOpenTags s).decoder = s.decoder := by unfold countOpenTags; rfl
@[simp] theorem countOpenTags_tags (s : State) :
    (countOpenTags s).tags = s.tags := by unfold countOpenTags; rfl
@[simp] theorem countOpenTags_trail (s : State) :
    (countOpenTags s).trail = s.trail := by unfold countOpenTags; rfl
@[simp] theorem countOpenTags_hitSet (s : State) :
    (countOpenTags s).hitSet = s.hitSet := by unfold countOpenTags; rfl
@[simp] theorem countOpenTags_resolver (s : State) :
    (countOpenTags s).resolver = s.resolver := by unfold countOpenTags; rfl
@[simp] theorem countOpenTags_pen (s : State) :
    (countOpenTags s).pen = s.pen := by unfold countOpenTags; rfl
@[simp] theorem countOpenTags_tracking (s : State) :
    (countOpenTags s).tracking = s.tracking := by unfold countOpenTags; rfl
@[simp] theorem countOpenTags_overlay (s : State) :
    (countOpenTags s).overlay = s.overlay := by unfold countOpenTags; rfl
@[simp] theorem countOpenTags_banks (s : State) :
    (countOpenTags s).banks = s.banks := by unfold countOpenTags; rfl
@[simp] theorem countOpenTags_loads (s : State) :
    (countOpenTags s).loads = s.loads := by unfold countOpenTags; rfl
@[simp] theorem countOpenTags_orders (s : State) :
    (countOpenTags s).orders = s.orders := by unfold countOpenTags; rfl
@[simp] theorem countOpenTags_lane (s : State) :
    (countOpenTags s).lane = s.lane := by unfold countOpenTags; rfl
@[simp] theorem countOpenTags_pins (s : State) :
    (countOpenTags s).pins = s.pins := by unfold countOpenTags; rfl
@[simp] theorem countOpenTags_resetLow (s : State) :
    (countOpenTags s).resetLow = s.resetLow := by unfold countOpenTags; rfl
@[simp] theorem countOpenTags_portLine (s : State) :
    (countOpenTags s).portLine = s.portLine := by unfold countOpenTags; rfl
@[simp] theorem countOpenTags_lowArrivals (s : State) :
    (countOpenTags s).lowArrivals = s.lowArrivals := by unfold countOpenTags; rfl
@[simp] theorem countOpenTags_freeIndex (s : State) :
    (countOpenTags s).freeIndex = s.freeIndex := by unfold countOpenTags; rfl
@[simp] theorem countOpenTags_pending (s : State) :
    (countOpenTags s).pending = s.pending := by unfold countOpenTags; rfl

/-- A LINK fault changes the link-fault flag and the Return Lane (R19). -/
theorem raiseLink_frame (c : LinkCause) (s : State) :
    ∃ v0 v1, raiseLink c s =
      (s.setDecoder v0).setLane v1 := by
  unfold raiseLink
  split
  · exact ⟨s.decoder, s.lane, rfl⟩
  · exact ⟨_, _, rfl⟩

@[simp] theorem raiseLink_tags (c : LinkCause) (s : State) :
    (raiseLink c s).tags = s.tags := by
  obtain ⟨_, _, h⟩ := raiseLink_frame c s; rw [h]; rfl
@[simp] theorem raiseLink_trail (c : LinkCause) (s : State) :
    (raiseLink c s).trail = s.trail := by
  obtain ⟨_, _, h⟩ := raiseLink_frame c s; rw [h]; rfl
@[simp] theorem raiseLink_corr (c : LinkCause) (s : State) :
    (raiseLink c s).corr = s.corr := by
  obtain ⟨_, _, h⟩ := raiseLink_frame c s; rw [h]; rfl
@[simp] theorem raiseLink_hitSet (c : LinkCause) (s : State) :
    (raiseLink c s).hitSet = s.hitSet := by
  obtain ⟨_, _, h⟩ := raiseLink_frame c s; rw [h]; rfl
@[simp] theorem raiseLink_resolver (c : LinkCause) (s : State) :
    (raiseLink c s).resolver = s.resolver := by
  obtain ⟨_, _, h⟩ := raiseLink_frame c s; rw [h]; rfl
@[simp] theorem raiseLink_pen (c : LinkCause) (s : State) :
    (raiseLink c s).pen = s.pen := by
  obtain ⟨_, _, h⟩ := raiseLink_frame c s; rw [h]; rfl
@[simp] theorem raiseLink_tracking (c : LinkCause) (s : State) :
    (raiseLink c s).tracking = s.tracking := by
  obtain ⟨_, _, h⟩ := raiseLink_frame c s; rw [h]; rfl
@[simp] theorem raiseLink_overlay (c : LinkCause) (s : State) :
    (raiseLink c s).overlay = s.overlay := by
  obtain ⟨_, _, h⟩ := raiseLink_frame c s; rw [h]; rfl
@[simp] theorem raiseLink_banks (c : LinkCause) (s : State) :
    (raiseLink c s).banks = s.banks := by
  obtain ⟨_, _, h⟩ := raiseLink_frame c s; rw [h]; rfl
@[simp] theorem raiseLink_loads (c : LinkCause) (s : State) :
    (raiseLink c s).loads = s.loads := by
  obtain ⟨_, _, h⟩ := raiseLink_frame c s; rw [h]; rfl
@[simp] theorem raiseLink_orders (c : LinkCause) (s : State) :
    (raiseLink c s).orders = s.orders := by
  obtain ⟨_, _, h⟩ := raiseLink_frame c s; rw [h]; rfl
@[simp] theorem raiseLink_pins (c : LinkCause) (s : State) :
    (raiseLink c s).pins = s.pins := by
  obtain ⟨_, _, h⟩ := raiseLink_frame c s; rw [h]; rfl
@[simp] theorem raiseLink_resetLow (c : LinkCause) (s : State) :
    (raiseLink c s).resetLow = s.resetLow := by
  obtain ⟨_, _, h⟩ := raiseLink_frame c s; rw [h]; rfl
@[simp] theorem raiseLink_portLine (c : LinkCause) (s : State) :
    (raiseLink c s).portLine = s.portLine := by
  obtain ⟨_, _, h⟩ := raiseLink_frame c s; rw [h]; rfl
@[simp] theorem raiseLink_lowArrivals (c : LinkCause) (s : State) :
    (raiseLink c s).lowArrivals = s.lowArrivals := by
  obtain ⟨_, _, h⟩ := raiseLink_frame c s; rw [h]; rfl
@[simp] theorem raiseLink_freeIndex (c : LinkCause) (s : State) :
    (raiseLink c s).freeIndex = s.freeIndex := by
  obtain ⟨_, _, h⟩ := raiseLink_frame c s; rw [h]; rfl
@[simp] theorem raiseLink_pending (c : LinkCause) (s : State) :
    (raiseLink c s).pending = s.pending := by
  obtain ⟨_, _, h⟩ := raiseLink_frame c s; rw [h]; rfl

/-- Two states agree on all but the Hit Correlator and the Hit Set. -/
structure SameBesideHits (s t : State) : Prop where
  decoder     : t.decoder = s.decoder
  tags        : t.tags = s.tags
  trail       : t.trail = s.trail
  resolver    : t.resolver = s.resolver
  pen         : t.pen = s.pen
  tracking    : t.tracking = s.tracking
  overlay     : t.overlay = s.overlay
  banks       : t.banks = s.banks
  loads       : t.loads = s.loads
  orders      : t.orders = s.orders
  lane        : t.lane = s.lane
  pins        : t.pins = s.pins
  resetLow    : t.resetLow = s.resetLow
  portLine    : t.portLine = s.portLine
  lowArrivals : t.lowArrivals = s.lowArrivals
  freeIndex   : t.freeIndex = s.freeIndex
  pending     : t.pending = s.pending

theorem SameBesideHits.refl (s : State) : SameBesideHits s s := by constructor <;> rfl

theorem SameBesideHits.trans {s t u : State} (h : SameBesideHits s t) (k : SameBesideHits t u) :
    SameBesideHits s u :=
  ⟨k.decoder.trans h.decoder, k.tags.trans h.tags, k.trail.trans h.trail,
    k.resolver.trans h.resolver, k.pen.trans h.pen, k.tracking.trans h.tracking,
    k.overlay.trans h.overlay, k.banks.trans h.banks, k.loads.trans h.loads,
    k.orders.trans h.orders, k.lane.trans h.lane, k.pins.trans h.pins, k.resetLow.trans h.resetLow,
    k.portLine.trans h.portLine, k.lowArrivals.trans h.lowArrivals, k.freeIndex.trans h.freeIndex,
    k.pending.trans h.pending⟩

/-- A hand-over changes the Hit Set and the frame's counters (R66, R67). -/
theorem handOver_beside (r : HitRecord) (s : State) :
    SameBesideHits s (handOver r s) := by
  unfold handOver
  split
  · constructor <;> simp
  · split
    · constructor <;> simp
    · split
      · exact .refl s
      · constructor <;> simp

@[simp] theorem handOver_decoder (r : HitRecord) (s : State) :
    (handOver r s).decoder = s.decoder := (handOver_beside r s).decoder
@[simp] theorem handOver_tags (r : HitRecord) (s : State) :
    (handOver r s).tags = s.tags := (handOver_beside r s).tags
@[simp] theorem handOver_trail (r : HitRecord) (s : State) :
    (handOver r s).trail = s.trail := (handOver_beside r s).trail
@[simp] theorem handOver_resolver (r : HitRecord) (s : State) :
    (handOver r s).resolver = s.resolver := (handOver_beside r s).resolver
@[simp] theorem handOver_pen (r : HitRecord) (s : State) :
    (handOver r s).pen = s.pen := (handOver_beside r s).pen
@[simp] theorem handOver_tracking (r : HitRecord) (s : State) :
    (handOver r s).tracking = s.tracking := (handOver_beside r s).tracking
@[simp] theorem handOver_overlay (r : HitRecord) (s : State) :
    (handOver r s).overlay = s.overlay := (handOver_beside r s).overlay
@[simp] theorem handOver_banks (r : HitRecord) (s : State) :
    (handOver r s).banks = s.banks := (handOver_beside r s).banks
@[simp] theorem handOver_loads (r : HitRecord) (s : State) :
    (handOver r s).loads = s.loads := (handOver_beside r s).loads
@[simp] theorem handOver_orders (r : HitRecord) (s : State) :
    (handOver r s).orders = s.orders := (handOver_beside r s).orders
@[simp] theorem handOver_lane (r : HitRecord) (s : State) :
    (handOver r s).lane = s.lane := (handOver_beside r s).lane
@[simp] theorem handOver_pins (r : HitRecord) (s : State) :
    (handOver r s).pins = s.pins := (handOver_beside r s).pins
@[simp] theorem handOver_resetLow (r : HitRecord) (s : State) :
    (handOver r s).resetLow = s.resetLow := (handOver_beside r s).resetLow
@[simp] theorem handOver_portLine (r : HitRecord) (s : State) :
    (handOver r s).portLine = s.portLine := (handOver_beside r s).portLine
@[simp] theorem handOver_lowArrivals (r : HitRecord) (s : State) :
    (handOver r s).lowArrivals = s.lowArrivals := (handOver_beside r s).lowArrivals
@[simp] theorem handOver_freeIndex (r : HitRecord) (s : State) :
    (handOver r s).freeIndex = s.freeIndex := (handOver_beside r s).freeIndex
@[simp] theorem handOver_pending (r : HitRecord) (s : State) :
    (handOver r s).pending = s.pending := (handOver_beside r s).pending

/-- A menu hit changes the Hit Correlator (R58). -/
theorem menuHit_beside (i : Nat) (b : Bool) (s : State) :
    SameBesideHits s (menuHit i b s) := by
  cases b <;> simp only [menuHit, if_true, Bool.false_eq_true, if_false] <;> constructor <;> simp

@[simp] theorem menuHit_decoder (i : Nat) (b : Bool) (s : State) :
    (menuHit i b s).decoder = s.decoder := (menuHit_beside i b s).decoder
@[simp] theorem menuHit_tags (i : Nat) (b : Bool) (s : State) :
    (menuHit i b s).tags = s.tags := (menuHit_beside i b s).tags
@[simp] theorem menuHit_trail (i : Nat) (b : Bool) (s : State) :
    (menuHit i b s).trail = s.trail := (menuHit_beside i b s).trail
@[simp] theorem menuHit_resolver (i : Nat) (b : Bool) (s : State) :
    (menuHit i b s).resolver = s.resolver := (menuHit_beside i b s).resolver
@[simp] theorem menuHit_pen (i : Nat) (b : Bool) (s : State) :
    (menuHit i b s).pen = s.pen := (menuHit_beside i b s).pen
@[simp] theorem menuHit_tracking (i : Nat) (b : Bool) (s : State) :
    (menuHit i b s).tracking = s.tracking := (menuHit_beside i b s).tracking
@[simp] theorem menuHit_overlay (i : Nat) (b : Bool) (s : State) :
    (menuHit i b s).overlay = s.overlay := (menuHit_beside i b s).overlay
@[simp] theorem menuHit_banks (i : Nat) (b : Bool) (s : State) :
    (menuHit i b s).banks = s.banks := (menuHit_beside i b s).banks
@[simp] theorem menuHit_loads (i : Nat) (b : Bool) (s : State) :
    (menuHit i b s).loads = s.loads := (menuHit_beside i b s).loads
@[simp] theorem menuHit_orders (i : Nat) (b : Bool) (s : State) :
    (menuHit i b s).orders = s.orders := (menuHit_beside i b s).orders
@[simp] theorem menuHit_lane (i : Nat) (b : Bool) (s : State) :
    (menuHit i b s).lane = s.lane := (menuHit_beside i b s).lane
@[simp] theorem menuHit_pins (i : Nat) (b : Bool) (s : State) :
    (menuHit i b s).pins = s.pins := (menuHit_beside i b s).pins
@[simp] theorem menuHit_resetLow (i : Nat) (b : Bool) (s : State) :
    (menuHit i b s).resetLow = s.resetLow := (menuHit_beside i b s).resetLow
@[simp] theorem menuHit_portLine (i : Nat) (b : Bool) (s : State) :
    (menuHit i b s).portLine = s.portLine := (menuHit_beside i b s).portLine
@[simp] theorem menuHit_lowArrivals (i : Nat) (b : Bool) (s : State) :
    (menuHit i b s).lowArrivals = s.lowArrivals := (menuHit_beside i b s).lowArrivals
@[simp] theorem menuHit_freeIndex (i : Nat) (b : Bool) (s : State) :
    (menuHit i b s).freeIndex = s.freeIndex := (menuHit_beside i b s).freeIndex
@[simp] theorem menuHit_pending (i : Nat) (b : Bool) (s : State) :
    (menuHit i b s).pending = s.pending := (menuHit_beside i b s).pending

/-- A list hit changes the Hit Correlator and the Hit Set (R59, R60). -/
theorem listHit_beside (e : Entry) (path : List Nat) (l : Option Nat) (p : Point) (b : Bool) (s : State) :
    SameBesideHits s (listHit e path l p b s) := by
  obtain _ | ⟨a, rest⟩ := path
  · simp only [listHit]; constructor <;> simp
  · cases l with
    | none => simp only [listHit]; constructor <;> simp
    | some l =>
      simp only [listHit]
      split
      · constructor <;> simp
      · split <;> constructor <;> simp

@[simp] theorem listHit_decoder (e : Entry) (path : List Nat) (l : Option Nat) (p : Point) (b : Bool) (s : State) :
    (listHit e path l p b s).decoder = s.decoder := (listHit_beside e path l p b s).decoder
@[simp] theorem listHit_tags (e : Entry) (path : List Nat) (l : Option Nat) (p : Point) (b : Bool) (s : State) :
    (listHit e path l p b s).tags = s.tags := (listHit_beside e path l p b s).tags
@[simp] theorem listHit_trail (e : Entry) (path : List Nat) (l : Option Nat) (p : Point) (b : Bool) (s : State) :
    (listHit e path l p b s).trail = s.trail := (listHit_beside e path l p b s).trail
@[simp] theorem listHit_resolver (e : Entry) (path : List Nat) (l : Option Nat) (p : Point) (b : Bool) (s : State) :
    (listHit e path l p b s).resolver = s.resolver := (listHit_beside e path l p b s).resolver
@[simp] theorem listHit_pen (e : Entry) (path : List Nat) (l : Option Nat) (p : Point) (b : Bool) (s : State) :
    (listHit e path l p b s).pen = s.pen := (listHit_beside e path l p b s).pen
@[simp] theorem listHit_tracking (e : Entry) (path : List Nat) (l : Option Nat) (p : Point) (b : Bool) (s : State) :
    (listHit e path l p b s).tracking = s.tracking := (listHit_beside e path l p b s).tracking
@[simp] theorem listHit_overlay (e : Entry) (path : List Nat) (l : Option Nat) (p : Point) (b : Bool) (s : State) :
    (listHit e path l p b s).overlay = s.overlay := (listHit_beside e path l p b s).overlay
@[simp] theorem listHit_banks (e : Entry) (path : List Nat) (l : Option Nat) (p : Point) (b : Bool) (s : State) :
    (listHit e path l p b s).banks = s.banks := (listHit_beside e path l p b s).banks
@[simp] theorem listHit_loads (e : Entry) (path : List Nat) (l : Option Nat) (p : Point) (b : Bool) (s : State) :
    (listHit e path l p b s).loads = s.loads := (listHit_beside e path l p b s).loads
@[simp] theorem listHit_orders (e : Entry) (path : List Nat) (l : Option Nat) (p : Point) (b : Bool) (s : State) :
    (listHit e path l p b s).orders = s.orders := (listHit_beside e path l p b s).orders
@[simp] theorem listHit_lane (e : Entry) (path : List Nat) (l : Option Nat) (p : Point) (b : Bool) (s : State) :
    (listHit e path l p b s).lane = s.lane := (listHit_beside e path l p b s).lane
@[simp] theorem listHit_pins (e : Entry) (path : List Nat) (l : Option Nat) (p : Point) (b : Bool) (s : State) :
    (listHit e path l p b s).pins = s.pins := (listHit_beside e path l p b s).pins
@[simp] theorem listHit_resetLow (e : Entry) (path : List Nat) (l : Option Nat) (p : Point) (b : Bool) (s : State) :
    (listHit e path l p b s).resetLow = s.resetLow := (listHit_beside e path l p b s).resetLow
@[simp] theorem listHit_portLine (e : Entry) (path : List Nat) (l : Option Nat) (p : Point) (b : Bool) (s : State) :
    (listHit e path l p b s).portLine = s.portLine := (listHit_beside e path l p b s).portLine
@[simp] theorem listHit_lowArrivals (e : Entry) (path : List Nat) (l : Option Nat) (p : Point) (b : Bool) (s : State) :
    (listHit e path l p b s).lowArrivals = s.lowArrivals := (listHit_beside e path l p b s).lowArrivals
@[simp] theorem listHit_freeIndex (e : Entry) (path : List Nat) (l : Option Nat) (p : Point) (b : Bool) (s : State) :
    (listHit e path l p b s).freeIndex = s.freeIndex := (listHit_beside e path l p b s).freeIndex
@[simp] theorem listHit_pending (e : Entry) (path : List Nat) (l : Option Nat) (p : Point) (b : Bool) (s : State) :
    (listHit e path l p b s).pending = s.pending := (listHit_beside e path l p b s).pending

/-- An attributed hit changes the Hit Correlator and the Hit Set (R56). -/
theorem attributeHit_beside (e : Entry) (p : Point) (b : Bool) (s : State) :
    SameBesideHits s (attributeHit e p b s) := by
  have first : SameBesideHits s
      (if b then countWith (fun c => { c with snapped := bump c.snapped }) s else s) := by
    cases b
    · exact .refl s
    · constructor <;> simp
  have key : ∀ u : State, SameBesideHits u (match e.origin with
      | .cross arm => crossHit arm p u
      | .menu index _ enabled => menuHit index enabled u
      | .list path layer => listHit e path layer p b u) := by
    intro u
    split
    · constructor <;> simp
    · exact menuHit_beside _ _ _
    · exact listHit_beside _ _ _ _ _ _
  exact first.trans (key _)

@[simp] theorem attributeHit_decoder (e : Entry) (p : Point) (b : Bool) (s : State) :
    (attributeHit e p b s).decoder = s.decoder := (attributeHit_beside e p b s).decoder
@[simp] theorem attributeHit_tags (e : Entry) (p : Point) (b : Bool) (s : State) :
    (attributeHit e p b s).tags = s.tags := (attributeHit_beside e p b s).tags
@[simp] theorem attributeHit_trail (e : Entry) (p : Point) (b : Bool) (s : State) :
    (attributeHit e p b s).trail = s.trail := (attributeHit_beside e p b s).trail
@[simp] theorem attributeHit_resolver (e : Entry) (p : Point) (b : Bool) (s : State) :
    (attributeHit e p b s).resolver = s.resolver := (attributeHit_beside e p b s).resolver
@[simp] theorem attributeHit_pen (e : Entry) (p : Point) (b : Bool) (s : State) :
    (attributeHit e p b s).pen = s.pen := (attributeHit_beside e p b s).pen
@[simp] theorem attributeHit_tracking (e : Entry) (p : Point) (b : Bool) (s : State) :
    (attributeHit e p b s).tracking = s.tracking := (attributeHit_beside e p b s).tracking
@[simp] theorem attributeHit_overlay (e : Entry) (p : Point) (b : Bool) (s : State) :
    (attributeHit e p b s).overlay = s.overlay := (attributeHit_beside e p b s).overlay
@[simp] theorem attributeHit_banks (e : Entry) (p : Point) (b : Bool) (s : State) :
    (attributeHit e p b s).banks = s.banks := (attributeHit_beside e p b s).banks
@[simp] theorem attributeHit_loads (e : Entry) (p : Point) (b : Bool) (s : State) :
    (attributeHit e p b s).loads = s.loads := (attributeHit_beside e p b s).loads
@[simp] theorem attributeHit_orders (e : Entry) (p : Point) (b : Bool) (s : State) :
    (attributeHit e p b s).orders = s.orders := (attributeHit_beside e p b s).orders
@[simp] theorem attributeHit_lane (e : Entry) (p : Point) (b : Bool) (s : State) :
    (attributeHit e p b s).lane = s.lane := (attributeHit_beside e p b s).lane
@[simp] theorem attributeHit_pins (e : Entry) (p : Point) (b : Bool) (s : State) :
    (attributeHit e p b s).pins = s.pins := (attributeHit_beside e p b s).pins
@[simp] theorem attributeHit_resetLow (e : Entry) (p : Point) (b : Bool) (s : State) :
    (attributeHit e p b s).resetLow = s.resetLow := (attributeHit_beside e p b s).resetLow
@[simp] theorem attributeHit_portLine (e : Entry) (p : Point) (b : Bool) (s : State) :
    (attributeHit e p b s).portLine = s.portLine := (attributeHit_beside e p b s).portLine
@[simp] theorem attributeHit_lowArrivals (e : Entry) (p : Point) (b : Bool) (s : State) :
    (attributeHit e p b s).lowArrivals = s.lowArrivals := (attributeHit_beside e p b s).lowArrivals
@[simp] theorem attributeHit_freeIndex (e : Entry) (p : Point) (b : Bool) (s : State) :
    (attributeHit e p b s).freeIndex = s.freeIndex := (attributeHit_beside e p b s).freeIndex
@[simp] theorem attributeHit_pending (e : Entry) (p : Point) (b : Bool) (s : State) :
    (attributeHit e p b s).pending = s.pending := (attributeHit_beside e p b s).pending

/-- A hit notice changes the Hit Correlator and the Hit Set, and nothing else (R43). -/
theorem hitEffect_beside (h e : Nat) (s : State) :
    SameBesideHits s (hitEffect h e s) := by
  unfold hitEffect
  split
  · exact .refl s
  · split
    · constructor <;> simp
    · split
      · exact .refl s
      · split
        · constructor <;> simp
        · split
          · constructor <;> simp
          · constructor <;> simp
          · constructor <;> simp

@[simp] theorem hitEffect_decoder (h e : Nat) (s : State) :
    (hitEffect h e s).decoder = s.decoder := (hitEffect_beside h e s).decoder
@[simp] theorem hitEffect_tags (h e : Nat) (s : State) :
    (hitEffect h e s).tags = s.tags := (hitEffect_beside h e s).tags
@[simp] theorem hitEffect_trail (h e : Nat) (s : State) :
    (hitEffect h e s).trail = s.trail := (hitEffect_beside h e s).trail
@[simp] theorem hitEffect_resolver (h e : Nat) (s : State) :
    (hitEffect h e s).resolver = s.resolver := (hitEffect_beside h e s).resolver
@[simp] theorem hitEffect_pen (h e : Nat) (s : State) :
    (hitEffect h e s).pen = s.pen := (hitEffect_beside h e s).pen
@[simp] theorem hitEffect_tracking (h e : Nat) (s : State) :
    (hitEffect h e s).tracking = s.tracking := (hitEffect_beside h e s).tracking
@[simp] theorem hitEffect_overlay (h e : Nat) (s : State) :
    (hitEffect h e s).overlay = s.overlay := (hitEffect_beside h e s).overlay
@[simp] theorem hitEffect_banks (h e : Nat) (s : State) :
    (hitEffect h e s).banks = s.banks := (hitEffect_beside h e s).banks
@[simp] theorem hitEffect_loads (h e : Nat) (s : State) :
    (hitEffect h e s).loads = s.loads := (hitEffect_beside h e s).loads
@[simp] theorem hitEffect_orders (h e : Nat) (s : State) :
    (hitEffect h e s).orders = s.orders := (hitEffect_beside h e s).orders
@[simp] theorem hitEffect_lane (h e : Nat) (s : State) :
    (hitEffect h e s).lane = s.lane := (hitEffect_beside h e s).lane
@[simp] theorem hitEffect_pins (h e : Nat) (s : State) :
    (hitEffect h e s).pins = s.pins := (hitEffect_beside h e s).pins
@[simp] theorem hitEffect_resetLow (h e : Nat) (s : State) :
    (hitEffect h e s).resetLow = s.resetLow := (hitEffect_beside h e s).resetLow
@[simp] theorem hitEffect_portLine (h e : Nat) (s : State) :
    (hitEffect h e s).portLine = s.portLine := (hitEffect_beside h e s).portLine
@[simp] theorem hitEffect_lowArrivals (h e : Nat) (s : State) :
    (hitEffect h e s).lowArrivals = s.lowArrivals := (hitEffect_beside h e s).lowArrivals
@[simp] theorem hitEffect_freeIndex (h e : Nat) (s : State) :
    (hitEffect h e s).freeIndex = s.freeIndex := (hitEffect_beside h e s).freeIndex
@[simp] theorem hitEffect_pending (h e : Nat) (s : State) :
    (hitEffect h e s).pending = s.pending := (hitEffect_beside h e s).pending

/-- The issue of the FRAME END in hand changes the Trail and the Decoder (R11). -/
theorem issueHeldFrameEnd_frame (s : State) :
    ∃ v0 v1, issueHeldFrameEnd s =
      (s.setTrail v0).setDecoder v1 := by
  unfold issueHeldFrameEnd
  split
  · split
    · exact ⟨_, _, rfl⟩
    · exact ⟨s.trail, s.decoder, rfl⟩
  · exact ⟨s.trail, s.decoder, rfl⟩

@[simp] theorem issueHeldFrameEnd_tags (s : State) :
    (issueHeldFrameEnd s).tags = s.tags := by
  obtain ⟨_, _, h⟩ := issueHeldFrameEnd_frame s; rw [h]; rfl
@[simp] theorem issueHeldFrameEnd_corr (s : State) :
    (issueHeldFrameEnd s).corr = s.corr := by
  obtain ⟨_, _, h⟩ := issueHeldFrameEnd_frame s; rw [h]; rfl
@[simp] theorem issueHeldFrameEnd_hitSet (s : State) :
    (issueHeldFrameEnd s).hitSet = s.hitSet := by
  obtain ⟨_, _, h⟩ := issueHeldFrameEnd_frame s; rw [h]; rfl
@[simp] theorem issueHeldFrameEnd_resolver (s : State) :
    (issueHeldFrameEnd s).resolver = s.resolver := by
  obtain ⟨_, _, h⟩ := issueHeldFrameEnd_frame s; rw [h]; rfl
@[simp] theorem issueHeldFrameEnd_pen (s : State) :
    (issueHeldFrameEnd s).pen = s.pen := by
  obtain ⟨_, _, h⟩ := issueHeldFrameEnd_frame s; rw [h]; rfl
@[simp] theorem issueHeldFrameEnd_tracking (s : State) :
    (issueHeldFrameEnd s).tracking = s.tracking := by
  obtain ⟨_, _, h⟩ := issueHeldFrameEnd_frame s; rw [h]; rfl
@[simp] theorem issueHeldFrameEnd_overlay (s : State) :
    (issueHeldFrameEnd s).overlay = s.overlay := by
  obtain ⟨_, _, h⟩ := issueHeldFrameEnd_frame s; rw [h]; rfl
@[simp] theorem issueHeldFrameEnd_banks (s : State) :
    (issueHeldFrameEnd s).banks = s.banks := by
  obtain ⟨_, _, h⟩ := issueHeldFrameEnd_frame s; rw [h]; rfl
@[simp] theorem issueHeldFrameEnd_loads (s : State) :
    (issueHeldFrameEnd s).loads = s.loads := by
  obtain ⟨_, _, h⟩ := issueHeldFrameEnd_frame s; rw [h]; rfl
@[simp] theorem issueHeldFrameEnd_orders (s : State) :
    (issueHeldFrameEnd s).orders = s.orders := by
  obtain ⟨_, _, h⟩ := issueHeldFrameEnd_frame s; rw [h]; rfl
@[simp] theorem issueHeldFrameEnd_lane (s : State) :
    (issueHeldFrameEnd s).lane = s.lane := by
  obtain ⟨_, _, h⟩ := issueHeldFrameEnd_frame s; rw [h]; rfl
@[simp] theorem issueHeldFrameEnd_pins (s : State) :
    (issueHeldFrameEnd s).pins = s.pins := by
  obtain ⟨_, _, h⟩ := issueHeldFrameEnd_frame s; rw [h]; rfl
@[simp] theorem issueHeldFrameEnd_resetLow (s : State) :
    (issueHeldFrameEnd s).resetLow = s.resetLow := by
  obtain ⟨_, _, h⟩ := issueHeldFrameEnd_frame s; rw [h]; rfl
@[simp] theorem issueHeldFrameEnd_portLine (s : State) :
    (issueHeldFrameEnd s).portLine = s.portLine := by
  obtain ⟨_, _, h⟩ := issueHeldFrameEnd_frame s; rw [h]; rfl
@[simp] theorem issueHeldFrameEnd_lowArrivals (s : State) :
    (issueHeldFrameEnd s).lowArrivals = s.lowArrivals := by
  obtain ⟨_, _, h⟩ := issueHeldFrameEnd_frame s; rw [h]; rfl
@[simp] theorem issueHeldFrameEnd_freeIndex (s : State) :
    (issueHeldFrameEnd s).freeIndex = s.freeIndex := by
  obtain ⟨_, _, h⟩ := issueHeldFrameEnd_frame s; rw [h]; rfl
@[simp] theorem issueHeldFrameEnd_pending (s : State) :
    (issueHeldFrameEnd s).pending = s.pending := by
  obtain ⟨_, _, h⟩ := issueHeldFrameEnd_frame s; rw [h]; rfl

/-- The issue of the generated FRAME END changes the Trail and the Decoder (R14). -/
theorem issueGeneratedFrameEnd_frame (s : State) :
    ∃ v0 v1, issueGeneratedFrameEnd s =
      (s.setTrail v0).setDecoder v1 := by
  unfold issueGeneratedFrameEnd
  split
  · exact ⟨_, _, rfl⟩
  · exact ⟨s.trail, s.decoder, rfl⟩

@[simp] theorem issueGeneratedFrameEnd_tags (s : State) :
    (issueGeneratedFrameEnd s).tags = s.tags := by
  obtain ⟨_, _, h⟩ := issueGeneratedFrameEnd_frame s; rw [h]; rfl
@[simp] theorem issueGeneratedFrameEnd_corr (s : State) :
    (issueGeneratedFrameEnd s).corr = s.corr := by
  obtain ⟨_, _, h⟩ := issueGeneratedFrameEnd_frame s; rw [h]; rfl
@[simp] theorem issueGeneratedFrameEnd_hitSet (s : State) :
    (issueGeneratedFrameEnd s).hitSet = s.hitSet := by
  obtain ⟨_, _, h⟩ := issueGeneratedFrameEnd_frame s; rw [h]; rfl
@[simp] theorem issueGeneratedFrameEnd_resolver (s : State) :
    (issueGeneratedFrameEnd s).resolver = s.resolver := by
  obtain ⟨_, _, h⟩ := issueGeneratedFrameEnd_frame s; rw [h]; rfl
@[simp] theorem issueGeneratedFrameEnd_pen (s : State) :
    (issueGeneratedFrameEnd s).pen = s.pen := by
  obtain ⟨_, _, h⟩ := issueGeneratedFrameEnd_frame s; rw [h]; rfl
@[simp] theorem issueGeneratedFrameEnd_tracking (s : State) :
    (issueGeneratedFrameEnd s).tracking = s.tracking := by
  obtain ⟨_, _, h⟩ := issueGeneratedFrameEnd_frame s; rw [h]; rfl
@[simp] theorem issueGeneratedFrameEnd_overlay (s : State) :
    (issueGeneratedFrameEnd s).overlay = s.overlay := by
  obtain ⟨_, _, h⟩ := issueGeneratedFrameEnd_frame s; rw [h]; rfl
@[simp] theorem issueGeneratedFrameEnd_banks (s : State) :
    (issueGeneratedFrameEnd s).banks = s.banks := by
  obtain ⟨_, _, h⟩ := issueGeneratedFrameEnd_frame s; rw [h]; rfl
@[simp] theorem issueGeneratedFrameEnd_loads (s : State) :
    (issueGeneratedFrameEnd s).loads = s.loads := by
  obtain ⟨_, _, h⟩ := issueGeneratedFrameEnd_frame s; rw [h]; rfl
@[simp] theorem issueGeneratedFrameEnd_orders (s : State) :
    (issueGeneratedFrameEnd s).orders = s.orders := by
  obtain ⟨_, _, h⟩ := issueGeneratedFrameEnd_frame s; rw [h]; rfl
@[simp] theorem issueGeneratedFrameEnd_lane (s : State) :
    (issueGeneratedFrameEnd s).lane = s.lane := by
  obtain ⟨_, _, h⟩ := issueGeneratedFrameEnd_frame s; rw [h]; rfl
@[simp] theorem issueGeneratedFrameEnd_pins (s : State) :
    (issueGeneratedFrameEnd s).pins = s.pins := by
  obtain ⟨_, _, h⟩ := issueGeneratedFrameEnd_frame s; rw [h]; rfl
@[simp] theorem issueGeneratedFrameEnd_resetLow (s : State) :
    (issueGeneratedFrameEnd s).resetLow = s.resetLow := by
  obtain ⟨_, _, h⟩ := issueGeneratedFrameEnd_frame s; rw [h]; rfl
@[simp] theorem issueGeneratedFrameEnd_portLine (s : State) :
    (issueGeneratedFrameEnd s).portLine = s.portLine := by
  obtain ⟨_, _, h⟩ := issueGeneratedFrameEnd_frame s; rw [h]; rfl
@[simp] theorem issueGeneratedFrameEnd_lowArrivals (s : State) :
    (issueGeneratedFrameEnd s).lowArrivals = s.lowArrivals := by
  obtain ⟨_, _, h⟩ := issueGeneratedFrameEnd_frame s; rw [h]; rfl
@[simp] theorem issueGeneratedFrameEnd_freeIndex (s : State) :
    (issueGeneratedFrameEnd s).freeIndex = s.freeIndex := by
  obtain ⟨_, _, h⟩ := issueGeneratedFrameEnd_frame s; rw [h]; rfl
@[simp] theorem issueGeneratedFrameEnd_pending (s : State) :
    (issueGeneratedFrameEnd s).pending = s.pending := by
  obtain ⟨_, _, h⟩ := issueGeneratedFrameEnd_frame s; rw [h]; rfl

/-- An issue of the Overlay Generator changes the Trail, the Decoder and the emission (R127). -/
theorem overlayIssue_frame (s : State) :
    ∃ v0 v1 v2, overlayIssue s =
      ((s.setTrail v0).setDecoder v1).setOverlay v2 := by
  unfold overlayIssue
  split
  · exact ⟨s.trail, s.decoder, s.overlay, rfl⟩
  · split
    · obtain ⟨t, d, h⟩ := issueHeldFrameEnd_frame _
      rw [h]
      exact ⟨_, _, _, rfl⟩
    · exact ⟨s.trail, s.decoder, s.overlay, rfl⟩

@[simp] theorem overlayIssue_tags (s : State) :
    (overlayIssue s).tags = s.tags := by
  obtain ⟨_, _, _, h⟩ := overlayIssue_frame s; rw [h]; rfl
@[simp] theorem overlayIssue_corr (s : State) :
    (overlayIssue s).corr = s.corr := by
  obtain ⟨_, _, _, h⟩ := overlayIssue_frame s; rw [h]; rfl
@[simp] theorem overlayIssue_hitSet (s : State) :
    (overlayIssue s).hitSet = s.hitSet := by
  obtain ⟨_, _, _, h⟩ := overlayIssue_frame s; rw [h]; rfl
@[simp] theorem overlayIssue_resolver (s : State) :
    (overlayIssue s).resolver = s.resolver := by
  obtain ⟨_, _, _, h⟩ := overlayIssue_frame s; rw [h]; rfl
@[simp] theorem overlayIssue_pen (s : State) :
    (overlayIssue s).pen = s.pen := by
  obtain ⟨_, _, _, h⟩ := overlayIssue_frame s; rw [h]; rfl
@[simp] theorem overlayIssue_tracking (s : State) :
    (overlayIssue s).tracking = s.tracking := by
  obtain ⟨_, _, _, h⟩ := overlayIssue_frame s; rw [h]; rfl
@[simp] theorem overlayIssue_banks (s : State) :
    (overlayIssue s).banks = s.banks := by
  obtain ⟨_, _, _, h⟩ := overlayIssue_frame s; rw [h]; rfl
@[simp] theorem overlayIssue_loads (s : State) :
    (overlayIssue s).loads = s.loads := by
  obtain ⟨_, _, _, h⟩ := overlayIssue_frame s; rw [h]; rfl
@[simp] theorem overlayIssue_orders (s : State) :
    (overlayIssue s).orders = s.orders := by
  obtain ⟨_, _, _, h⟩ := overlayIssue_frame s; rw [h]; rfl
@[simp] theorem overlayIssue_lane (s : State) :
    (overlayIssue s).lane = s.lane := by
  obtain ⟨_, _, _, h⟩ := overlayIssue_frame s; rw [h]; rfl
@[simp] theorem overlayIssue_pins (s : State) :
    (overlayIssue s).pins = s.pins := by
  obtain ⟨_, _, _, h⟩ := overlayIssue_frame s; rw [h]; rfl
@[simp] theorem overlayIssue_resetLow (s : State) :
    (overlayIssue s).resetLow = s.resetLow := by
  obtain ⟨_, _, _, h⟩ := overlayIssue_frame s; rw [h]; rfl
@[simp] theorem overlayIssue_portLine (s : State) :
    (overlayIssue s).portLine = s.portLine := by
  obtain ⟨_, _, _, h⟩ := overlayIssue_frame s; rw [h]; rfl
@[simp] theorem overlayIssue_lowArrivals (s : State) :
    (overlayIssue s).lowArrivals = s.lowArrivals := by
  obtain ⟨_, _, _, h⟩ := overlayIssue_frame s; rw [h]; rfl
@[simp] theorem overlayIssue_freeIndex (s : State) :
    (overlayIssue s).freeIndex = s.freeIndex := by
  obtain ⟨_, _, _, h⟩ := overlayIssue_frame s; rw [h]; rfl
@[simp] theorem overlayIssue_pending (s : State) :
    (overlayIssue s).pending = s.pending := by
  obtain ⟨_, _, _, h⟩ := overlayIssue_frame s; rw [h]; rfl

/-- A sync arrival changes the Overlay Generator, the Return Lane, and the Decoder and Trail by the issue of
the FRAME END (R128). -/
theorem syncEffect_frame (s : State) :
    ∃ v0 v1 v2 v3, syncEffect s =
      (((s.setTrail v0).setDecoder v1).setOverlay v2).setLane v3 := by
  unfold syncEffect
  split
  · obtain ⟨t, d, h⟩ := issueHeldFrameEnd_frame _
    rw [h]
    exact ⟨_, _, _, _, rfl⟩
  · exact ⟨s.trail, s.decoder, s.overlay, s.lane, rfl⟩

@[simp] theorem syncEffect_tags (s : State) :
    (syncEffect s).tags = s.tags := by
  obtain ⟨_, _, _, _, h⟩ := syncEffect_frame s; rw [h]; rfl
@[simp] theorem syncEffect_corr (s : State) :
    (syncEffect s).corr = s.corr := by
  obtain ⟨_, _, _, _, h⟩ := syncEffect_frame s; rw [h]; rfl
@[simp] theorem syncEffect_hitSet (s : State) :
    (syncEffect s).hitSet = s.hitSet := by
  obtain ⟨_, _, _, _, h⟩ := syncEffect_frame s; rw [h]; rfl
@[simp] theorem syncEffect_resolver (s : State) :
    (syncEffect s).resolver = s.resolver := by
  obtain ⟨_, _, _, _, h⟩ := syncEffect_frame s; rw [h]; rfl
@[simp] theorem syncEffect_pen (s : State) :
    (syncEffect s).pen = s.pen := by
  obtain ⟨_, _, _, _, h⟩ := syncEffect_frame s; rw [h]; rfl
@[simp] theorem syncEffect_tracking (s : State) :
    (syncEffect s).tracking = s.tracking := by
  obtain ⟨_, _, _, _, h⟩ := syncEffect_frame s; rw [h]; rfl
@[simp] theorem syncEffect_banks (s : State) :
    (syncEffect s).banks = s.banks := by
  obtain ⟨_, _, _, _, h⟩ := syncEffect_frame s; rw [h]; rfl
@[simp] theorem syncEffect_loads (s : State) :
    (syncEffect s).loads = s.loads := by
  obtain ⟨_, _, _, _, h⟩ := syncEffect_frame s; rw [h]; rfl
@[simp] theorem syncEffect_orders (s : State) :
    (syncEffect s).orders = s.orders := by
  obtain ⟨_, _, _, _, h⟩ := syncEffect_frame s; rw [h]; rfl
@[simp] theorem syncEffect_pins (s : State) :
    (syncEffect s).pins = s.pins := by
  obtain ⟨_, _, _, _, h⟩ := syncEffect_frame s; rw [h]; rfl
@[simp] theorem syncEffect_resetLow (s : State) :
    (syncEffect s).resetLow = s.resetLow := by
  obtain ⟨_, _, _, _, h⟩ := syncEffect_frame s; rw [h]; rfl
@[simp] theorem syncEffect_portLine (s : State) :
    (syncEffect s).portLine = s.portLine := by
  obtain ⟨_, _, _, _, h⟩ := syncEffect_frame s; rw [h]; rfl
@[simp] theorem syncEffect_lowArrivals (s : State) :
    (syncEffect s).lowArrivals = s.lowArrivals := by
  obtain ⟨_, _, _, _, h⟩ := syncEffect_frame s; rw [h]; rfl
@[simp] theorem syncEffect_freeIndex (s : State) :
    (syncEffect s).freeIndex = s.freeIndex := by
  obtain ⟨_, _, _, _, h⟩ := syncEffect_frame s; rw [h]; rfl
@[simp] theorem syncEffect_pending (s : State) :
    (syncEffect s).pending = s.pending := by
  obtain ⟨_, _, _, _, h⟩ := syncEffect_frame s; rw [h]; rfl

@[simp] theorem openFrame_orders (low : Low) (s : State) :
    (openFrame low s).orders = s.orders := by unfold openFrame; rfl
@[simp] theorem openFrame_pins (low : Low) (s : State) :
    (openFrame low s).pins = s.pins := by unfold openFrame; rfl
@[simp] theorem openFrame_resetLow (low : Low) (s : State) :
    (openFrame low s).resetLow = s.resetLow := by unfold openFrame; rfl
@[simp] theorem openFrame_portLine (low : Low) (s : State) :
    (openFrame low s).portLine = s.portLine := by unfold openFrame; rfl
@[simp] theorem openFrame_lowArrivals (low : Low) (s : State) :
    (openFrame low s).lowArrivals = s.lowArrivals := by unfold openFrame; rfl
@[simp] theorem openFrame_pending (low : Low) (s : State) :
    (openFrame low s).pending = s.pending := by unfold openFrame; rfl

@[simp] theorem closeNormal_tags (s : State) :
    (closeNormal s).tags = s.tags := by unfold closeNormal; rfl
@[simp] theorem closeNormal_trail (s : State) :
    (closeNormal s).trail = s.trail := by unfold closeNormal; rfl
@[simp] theorem closeNormal_corr (s : State) :
    (closeNormal s).corr = s.corr := by unfold closeNormal; rfl
@[simp] theorem closeNormal_hitSet (s : State) :
    (closeNormal s).hitSet = s.hitSet := by unfold closeNormal; rfl
@[simp] theorem closeNormal_overlay (s : State) :
    (closeNormal s).overlay = s.overlay := by unfold closeNormal; rfl
@[simp] theorem closeNormal_loads (s : State) :
    (closeNormal s).loads = s.loads := by unfold closeNormal; rfl
@[simp] theorem closeNormal_orders (s : State) :
    (closeNormal s).orders = s.orders := by unfold closeNormal; rfl
@[simp] theorem closeNormal_pins (s : State) :
    (closeNormal s).pins = s.pins := by unfold closeNormal; rfl
@[simp] theorem closeNormal_resetLow (s : State) :
    (closeNormal s).resetLow = s.resetLow := by unfold closeNormal; rfl
@[simp] theorem closeNormal_portLine (s : State) :
    (closeNormal s).portLine = s.portLine := by unfold closeNormal; rfl
@[simp] theorem closeNormal_lowArrivals (s : State) :
    (closeNormal s).lowArrivals = s.lowArrivals := by unfold closeNormal; rfl
@[simp] theorem closeNormal_pending (s : State) :
    (closeNormal s).pending = s.pending := by unfold closeNormal; rfl

/-! ## The lines, the waiting items and the queue of commands -/

/-- Two states agree on what no operation of the blocks touches: the lines, the items waiting at the ports
and the queue of commands. -/
structure SamePorts (s t : State) : Prop where
  pins        : t.pins = s.pins
  resetLow    : t.resetLow = s.resetLow
  portLine    : t.portLine = s.portLine
  lowArrivals : t.lowArrivals = s.lowArrivals
  pending     : t.pending = s.pending

theorem SamePorts.refl (s : State) : SamePorts s s := ⟨rfl, rfl, rfl, rfl, rfl⟩

theorem SamePorts.trans {s t u : State} (h : SamePorts s t) (k : SamePorts t u) : SamePorts s u :=
  ⟨k.pins.trans h.pins, k.resetLow.trans h.resetLow, k.portLine.trans h.portLine,
    k.lowArrivals.trans h.lowArrivals, k.pending.trans h.pending⟩

theorem enqueue_ports (r : Report) (s : State) :
    SamePorts s (enqueue r s) := ⟨by simp, by simp, by simp, by simp, by simp⟩

theorem issue_ports (it : Item) (o : Origin) (s : State) :
    SamePorts s (issue it o s) := ⟨by simp, by simp, by simp, by simp, by simp⟩

theorem tagFaults_ports (k : Nat) (s : State) :
    SamePorts s (tagFaults k s) := ⟨by simp, by simp, by simp, by simp, by simp⟩

theorem clearArmed_ports (s : State) :
    SamePorts s (clearArmed s) := ⟨by simp, by simp, by simp, by simp, by simp⟩

theorem openFrame_ports (low : Low) (s : State) :
    SamePorts s (openFrame low s) := ⟨by simp, by simp, by simp, by simp, by simp⟩

theorem closeNormal_ports (s : State) :
    SamePorts s (closeNormal s) := ⟨by simp, by simp, by simp, by simp, by simp⟩

theorem raiseLink_ports (c : LinkCause) (s : State) :
    SamePorts s (raiseLink c s) := ⟨by simp, by simp, by simp, by simp, by simp⟩

theorem hitEffect_ports (h e : Nat) (s : State) :
    SamePorts s (hitEffect h e s) := ⟨by simp, by simp, by simp, by simp, by simp⟩

theorem issueHeldFrameEnd_ports (s : State) :
    SamePorts s (issueHeldFrameEnd s) := ⟨by simp, by simp, by simp, by simp, by simp⟩

theorem issueGeneratedFrameEnd_ports (s : State) :
    SamePorts s (issueGeneratedFrameEnd s) := ⟨by simp, by simp, by simp, by simp, by simp⟩

theorem overlayIssue_ports (s : State) :
    SamePorts s (overlayIssue s) := ⟨by simp, by simp, by simp, by simp, by simp⟩

theorem syncEffect_ports (s : State) :
    SamePorts s (syncEffect s) := ⟨by simp, by simp, by simp, by simp, by simp⟩

theorem closeUnclosed_ports (s : State) : SamePorts s (closeUnclosed s) := by
  unfold closeUnclosed
  split <;> exact ⟨rfl, rfl, rfl, rfl, rfl⟩

theorem closeFrame_ports (s : State) : SamePorts s (closeFrame s) := by
  unfold closeFrame
  split
  · exact closeNormal_ports s
  · exact closeUnclosed_ports s
  · exact .refl s

theorem completeEffect_ports (q : Nat) (s : State) : SamePorts s (completeEffect q s) := by
  unfold completeEffect
  split
  · exact raiseLink_ports _ s
  · split
    · exact raiseLink_ports _ s
    · dsimp only
      split
      · refine SamePorts.trans ?_ (closeFrame_ports _)
        exact ⟨rfl, rfl, rfl, rfl, rfl⟩
      · exact ⟨rfl, rfl, rfl, rfl, rfl⟩

theorem performInBandReset_ports (t : BitVec 8) (s : State) :
    SamePorts s (performInBandReset t s) := ⟨rfl, rfl, rfl, rfl, rfl⟩

theorem endDrain_ports (s : State) : SamePorts s (endDrain s) := by
  unfold endDrain
  split
  · split
    · exact performInBandReset_ports _ s
    · exact .refl s
  · exact .refl s

theorem takeCompletion_ports (q : Nat) (s : State) : SamePorts s (takeCompletion q s) := by
  unfold takeCompletion
  split
  · exact (completeEffect_ports q s).trans (endDrain_ports _)
  · exact completeEffect_ports q s

theorem takeFrameStart_ports (low : Low) (s : State) : SamePorts s (takeFrameStart low s) := by
  unfold takeFrameStart
  dsimp only
  split
  · exact (clearArmed_ports s).trans (openFrame_ports low _)
  · refine SamePorts.trans ?_ (issueGeneratedFrameEnd_ports _)
    exact ⟨rfl, rfl, rfl, rfl, rfl⟩
  · exact clearArmed_ports s

theorem takeFrameEnd_ports (low : Low) (s : State) : SamePorts s (takeFrameEnd low s) := by
  unfold takeFrameEnd
  dsimp only
  split
  · exact ⟨rfl, rfl, rfl, rfl, rfl⟩
  · refine SamePorts.trans ?_ (issueHeldFrameEnd_ports _)
    exact ⟨rfl, rfl, rfl, rfl, rfl⟩
  · exact clearArmed_ports s

theorem takeMove_ports (x y : BitVec 12) (s : State) :
    SamePorts s (takeMove x y s) := ⟨rfl, rfl, rfl, rfl, rfl⟩

theorem takeStroke_ports (low : Low) (p : Word) (s : State) :
    SamePorts s (takeStroke low p s) := ⟨rfl, rfl, rfl, rfl, rfl⟩

theorem takeGlyphRun_ports (low : Low) (codes : List Word) (s : State) :
    SamePorts s (takeGlyphRun low codes s) := ⟨rfl, rfl, rfl, rfl, rfl⟩

theorem takeOpaque_ports (k : BitVec 8) (low : Low) (rest : List Word) (s : State) :
    SamePorts s (takeOpaque k low rest s) := ⟨rfl, rfl, rfl, rfl, rfl⟩

theorem takeTagOpen_ports (l : BitVec 8) (e : BitVec 16) (s : State) : SamePorts s (takeTagOpen l e s) := by
  unfold takeTagOpen
  dsimp only
  split <;> exact ⟨rfl, rfl, rfl, rfl, rfl⟩

theorem takeTagClose_ports (s : State) : SamePorts s (takeTagClose s) := by
  unfold takeTagClose
  dsimp only
  split <;> exact ⟨rfl, rfl, rfl, rfl, rfl⟩

theorem enqueueBeforeReply_ports (rs : List Report) (s : State) :
    SamePorts s (rs.foldl enqueueBeforeReply s) := by
  induction rs generalizing s with
  | nil => exact .refl s
  | cons r rs ih =>
    refine SamePorts.trans ?_ (ih _)
    unfold enqueueBeforeReply
    split <;> exact ⟨rfl, rfl, rfl, rfl, rfl⟩

/-- An order's taking leaves the ports alone if its owner does. -/
theorem takeOrder_ports (code tag : BitVec 8) (ok : Bool) (owner : State → Answer) (s : State)
    (h : ∀ u, SamePorts u (owner u).state) : SamePorts s (takeOrder code tag ok owner s) := by
  unfold takeOrder
  cases ok with
  | false => exact (clearArmed_ports s).trans (enqueue_ports _ _)
  | true =>
    exact ((clearArmed_ports s).trans (h _)).trans
      ((enqueueBeforeReply_ports _ _).trans (enqueue_ports _ _))

theorem clearShadow_ports (t : Table) (b : Option Band) (s : State) :
    SamePorts s (clearShadow t b s) := by
  cases t <;> exact ⟨rfl, rfl, rfl, rfl, rfl⟩

theorem setParameterOwner_ports (f : List Word) (s : State) : SamePorts s (setParameterOwner f s).state := by
  unfold setParameterOwner
  dsimp only
  (repeat' split) <;> exact ⟨rfl, rfl, rfl, rfl, rfl⟩

theorem setModesOwner_ports (f : List Word) (s : State) : SamePorts s (setModesOwner f s).state := by
  unfold setModesOwner
  (repeat' split) <;> exact ⟨rfl, rfl, rfl, rfl, rfl⟩

theorem layerSetOwner_ports (f : List Word) (s : State) : SamePorts s (layerSetOwner f s).state := by
  unfold layerSetOwner
  dsimp only
  (repeat' split) <;> exact ⟨rfl, rfl, rfl, rfl, rfl⟩

theorem buttonSetOwner_ports (f : List Word) (s : State) : SamePorts s (buttonSetOwner f s).state := by
  unfold buttonSetOwner
  dsimp only
  (repeat' split) <;> exact ⟨rfl, rfl, rfl, rfl, rfl⟩

theorem loadOpenOwner_ports (f : List Word) (s : State) : SamePorts s (loadOpenOwner f s).state := by
  unfold loadOpenOwner
  dsimp only
  (repeat' split) <;> first
    | exact ⟨rfl, rfl, rfl, rfl, rfl⟩
    | exact (clearShadow_ports _ _ s).trans ⟨rfl, rfl, rfl, rfl, rfl⟩

theorem loadSegmentOwner_ports (f : List Word) (s : State) : SamePorts s (loadSegmentOwner f s).state := by
  unfold loadSegmentOwner
  dsimp only
  (repeat' split) <;> exact ⟨rfl, rfl, rfl, rfl, rfl⟩

theorem loadCloseOwner_ports (f : List Word) (s : State) : SamePorts s (loadCloseOwner f s).state := by
  unfold loadCloseOwner
  (repeat' split) <;> exact ⟨rfl, rfl, rfl, rfl, rfl⟩

theorem loadAbortOwner_ports (f : List Word) (s : State) : SamePorts s (loadAbortOwner f s).state := by
  unfold loadAbortOwner
  (repeat' split) <;> exact ⟨rfl, rfl, rfl, rfl, rfl⟩

theorem placeCrossOwner_ports (f : List Word) (s : State) : SamePorts s (placeCrossOwner f s).state := by
  unfold placeCrossOwner
  (repeat' split) <;> exact ⟨rfl, rfl, rfl, rfl, rfl⟩

theorem clearFaultOwner_ports (f : List Word) (s : State) : SamePorts s (clearFaultOwner f s).state := by
  unfold clearFaultOwner
  (repeat' split) <;> exact ⟨rfl, rfl, rfl, rfl, rfl⟩

theorem suspendDragOwner_ports (s : State) : SamePorts s (suspendDragOwner s).state := by
  unfold suspendDragOwner
  (repeat' split) <;> exact ⟨rfl, rfl, rfl, rfl, rfl⟩

theorem resumeDragOwner_ports (s : State) : SamePorts s (resumeDragOwner s).state := by
  unfold resumeDragOwner
  (repeat' split) <;> exact ⟨rfl, rfl, rfl, rfl, rfl⟩

theorem cancelDragOwner_ports (s : State) : SamePorts s (cancelDragOwner s).state := by
  unfold cancelDragOwner
  (repeat' split) <;> exact ⟨rfl, rfl, rfl, rfl, rfl⟩

theorem takeReset_ports (tag : BitVec 8) (f : List Word) (s : State) :
    SamePorts s (takeReset tag f s) := by
  unfold takeReset
  dsimp only
  split
  · refine takeOrder_ports _ _ _ _ s (fun u => ?_); exact .refl u
  · split
    · split
      · exact ⟨rfl, rfl, rfl, rfl, rfl⟩
      · exact ⟨rfl, rfl, rfl, rfl, rfl⟩
    · refine takeOrder_ports _ _ _ _ s (fun u => ?_); exact .refl u

/-- The taking of an item changes neither the lines nor what waits at the ports. -/
theorem take_ports (i : Instr) (s : State) : SamePorts s (take i s) := by
  cases i with
  | frameStart low pins => exact takeFrameStart_ports low s
  | frameEnd low => exact takeFrameEnd_ports low s
  | move x y => exact takeMove_ports x y s
  | stroke low p => exact takeStroke_ports low p s
  | glyphRun low codes => exact takeGlyphRun_ports low codes s
  | opaqueItem k low rest => exact takeOpaque_ports k low rest s
  | tagOpen l e => exact takeTagOpen_ports l e s
  | tagClose => exact takeTagClose_ports s
  | setParameter t f => exact takeOrder_ports _ _ _ _ s (setParameterOwner_ports f)
  | setModes t f => exact takeOrder_ports _ _ _ _ s (setModesOwner_ports f)
  | layerSet t f => exact takeOrder_ports _ _ _ _ s (layerSetOwner_ports f)
  | buttonSet t f => exact takeOrder_ports _ _ _ _ s (buttonSetOwner_ports f)
  | loadOpen t f => exact takeOrder_ports _ _ _ _ s (loadOpenOwner_ports f)
  | loadSegment t f => exact takeOrder_ports _ _ _ _ s (loadSegmentOwner_ports f)
  | loadClose t f => exact takeOrder_ports _ _ _ _ s (loadCloseOwner_ports f)
  | loadAbort t f => exact takeOrder_ports _ _ _ _ s (loadAbortOwner_ports f)
  | placeCross t f => exact takeOrder_ports _ _ _ _ s (placeCrossOwner_ports f)
  | suspendDrag t f => exact takeOrder_ports _ _ _ _ s suspendDragOwner_ports
  | resumeDrag t f => exact takeOrder_ports _ _ _ _ s resumeDragOwner_ports
  | cancelDrag t f => exact takeOrder_ports _ _ _ _ s cancelDragOwner_ports
  | clearFault t f => exact takeOrder_ports _ _ _ _ s (clearFaultOwner_ports f)
  | mark t f => unfold take takeMark; exact takeOrder_ports _ _ _ _ s fun u => .refl u
  | status t f => unfold take takeStatus; exact takeOrder_ports _ _ _ _ s fun u => .refl u
  | describe t f => unfold take takeDescribe; exact takeOrder_ports _ _ _ _ s fun u => .refl u
  | resetEnable t f => unfold take takeResetEnable; exact takeOrder_ports _ _ _ _ s fun u => ⟨rfl, rfl, rfl, rfl, rfl⟩
  | reset t f => exact takeReset_ports t f s
  | unknownOrder c t f => refine takeOrder_ports _ _ _ _ s (fun u => ?_); exact .refl u
  | _ => exact .refl s

end Sys2Proof.Machine
end

