-- ==== Sys2Proof/Laws/Ports.lean ====
section
/-! SUPPORT. The stream port and the step as a whole: the taking of one item at once, the draining of the
items held, and the principle by which a property that every operation keeps is kept by every
command and every step. -/

namespace Sys2Proof.Machine

theorem drain_nil (s : State) : drain [] s = s.setPortLine [] := rfl

theorem drain_held {i : Instr} {rest : List Instr} {s : State} (h : stallCauses i s ≠ []) :
    drain (i :: rest) s = s.setPortLine (i :: rest) := by
  simp [drain, h]

theorem drain_taken {i : Instr} {rest : List Instr} {s : State} (h : stallCauses i s = []) :
    drain (i :: rest) s = drain rest (take i s) := by
  simp [drain, h]

/-- With nothing held at the port there is nothing to drain. -/
theorem drainPort_empty {s : State} (h : s.portLine = []) : drainPort s = s := by
  unfold drainPort
  rw [h, drain_nil, ← h]
  rfl

/-- An item that nothing holds is taken in the event that presents it. -/
theorem present_takes {i : Instr} {s : State} (h : s.takesAtOnce i) : present i s = take i s := by
  obtain ⟨low, line, free⟩ := h
  have k : (take i s).portLine = [] := (take_ports i s).portLine.trans line
  unfold present
  rw [low, line]
  change drain [i] s = take i s
  rw [drain_taken free, drain_nil, ← k]
  rfl

/-- The command of a well-formed item that nothing holds answers with the item's taking. -/
theorem presented_takes {i : Instr} {s : State} (w : i.wellFormed = true) (h : s.takesAtOnce i) :
    presented i s = .next (take i s) := by
  unfold presented
  rw [if_pos w, present_takes h]

/-- What every taking and every change of the port line keeps, the draining of the port keeps. -/
theorem drain_keeps {P : State → Prop} (line : List Instr) (s : State)
    (hline : ∀ u l, P u → P (u.setPortLine l))
    (htake : ∀ i u, stallCauses i u = [] → P u → P (take i u)) (h : P s) : P (drain line s) := by
  induction line generalizing s with
  | nil => exact hline s [] h
  | cons i rest ih =>
    unfold drain
    split
    · exact ih _ (htake i s ‹_› h)
    · exact hline s _ h

/-- The operations every command is made of, as steps that keep `P`. -/
structure Keeps (P : State → Prop) : Prop where
  pins      : ∀ s v, P s → P (s.setPins v)
  resetLow  : ∀ s v, P s → P (s.setResetLow v)
  portLine  : ∀ s v, P s → P (s.setPortLine v)
  low       : ∀ s v, P s → P (s.setLowArrivals v)
  pending   : ∀ s v, P s → P (s.setPending v)
  take      : ∀ i s, stallCauses i s = [] → P s → P (take i s)
  complete  : ∀ q s, P s → P (takeCompletion q s)
  hit       : ∀ q e s, P s → P (hitEffect q e s)
  link      : ∀ c s, P s → P (raiseLink c s)
  held      : ∀ s, P s → P (issueHeldFrameEnd s)
  generated : ∀ s, P s → P (issueGeneratedFrameEnd s)
  overlay   : ∀ s, P s → P (overlayIssue s)
  sync      : ∀ s, P s → P (syncEffect s)
  reset     : ∀ s, P s → P (lineReset s)
  inBand    : ∀ t s, P s → P (performInBandReset t s)
  pass      : ∀ s, P s → P (passFirstWord s)
  idle      : ∀ s a b, P s → P (s.setLane { s.lane with lane := .idle, owedTrack := a, owedDrag := b })
  backlog   : ∀ s, P s → P (s.setDecoder { s.decoder with backlog := s.decoder.backlog.tail })

variable {P : State → Prop}

theorem Keeps.drain (k : Keeps P) (line : List Instr) (s : State) (h : P s) : P (drain line s) :=
  drain_keeps line s k.portLine k.take h

theorem Keeps.present (k : Keeps P) (i : Instr) (s : State) (h : P s) : P (present i s) := by
  unfold Machine.present
  split
  · exact k.low _ _ h
  · exact k.drain _ s h

theorem Keeps.presented (k : Keeps P) {i : Instr} {s t : State} (h : P s)
    (e : presented i s = .next t) : P t := by
  unfold Machine.presented at e
  split at e
  · cases e; exact k.present i s h
  · cases e

theorem Keeps.takeNotice (k : Keeps P) (i : Instr) (s : State) (h : P s) : P (takeNotice i s) := by
  unfold Machine.takeNotice
  split
  · exact k.drain _ _ (k.complete _ _ h)
  · exact k.hit _ _ _ h
  · exact k.link _ _ h
  · exact h

theorem Keeps.notice (k : Keeps P) (i : Instr) (s : State) (h : P s) : P (notice i s) := by
  unfold Machine.notice
  split
  · exact k.low _ _ h
  · exact k.takeNotice i s h

theorem Keeps.arrive (k : Keeps P) (is : List Instr) (s : State) (h : P s) :
    P (is.foldl arrive s) := by
  induction is generalizing s with
  | nil => exact h
  | cons i is ih =>
    refine ih _ ?_
    unfold Machine.arrive
    split
    · exact k.takeNotice i s h
    · exact k.present i s h

/-- What every operation keeps, every command keeps. -/
theorem Keeps.exec (k : Keeps P) {i : Instr} {s t : State} (h : P s) (e : exec i s = .next t) :
    P t := by
  cases i with
  | frameStart low pins =>
    exact k.presented (i := .frameStart low pins) (s := s.setPins pins) (k.pins _ _ h) e
  | frameEndIssue => cases e; exact k.held _ h
  | generatedFrameEndIssue => cases e; exact k.generated _ h
  | overlayItemIssue => cases e; exact k.overlay _ h
  | completionNotice seq pins => cases e; exact k.notice _ _ (k.pins _ _ h)
  | hitNotice seq el => cases e; exact k.notice _ _ h
  | unknownNotice w =>
    change (if _ then _ else _) = _ at e
    split at e
    · cases e; exact k.notice _ _ h
    · cases e
  | syncArrival =>
    cases e
    split
    · exact h
    · exact k.sync _ h
  | resetLineAssert =>
    cases e
    split
    · exact h
    · exact k.resetLow _ _ (k.reset _ h)
  | resetLineRelease pins =>
    cases e
    split
    · exact k.arrive _ _ (k.drain _ _ (k.low _ _ (k.resetLow _ _ (k.reset _ (k.pins _ _ h)))))
    · exact k.pins _ _ h
  | reportStart pins =>
    cases e
    split
    · unfold reportStarts
      split
      · exact k.drain _ _ (k.pass _ (k.pins _ _ h))
      · exact k.pass _ (k.pins _ _ h)
    · exact k.pins _ _ h
  | reportEnd =>
    cases e
    split
    · exact h
    · split
      · exact h
      · split
        · exact k.idle s _ _ h
        · exact k.idle s _ _ h
  | inBandResetPerformed pins =>
    change (match (s.setPins pins).orders.inHand with
      | some tag => _
      | none => _) = _ at e
    split at e
    · cases e
      split
      · exact k.drain _ _ (k.inBand _ _ (k.pins _ _ h))
      · exact k.pins _ _ h
    · cases e; exact k.pins _ _ h
  | beamPortWordSent =>
    cases e
    split
    · exact h
    · exact k.backlog _ h
  | frameEnd low => exact k.presented (i := .frameEnd low) h e
  | move x y => exact k.presented (i := .move x y) h e
  | stroke low p => exact k.presented (i := .stroke low p) h e
  | glyphRun low c => exact k.presented (i := .glyphRun low c) h e
  | opaqueItem kd low r => exact k.presented (i := .opaqueItem kd low r) h e
  | tagOpen l n => exact k.presented (i := .tagOpen l n) h e
  | tagClose => exact k.presented (i := .tagClose) h e
  | setParameter g f => exact k.presented (i := .setParameter g f) h e
  | setModes g f => exact k.presented (i := .setModes g f) h e
  | layerSet g f => exact k.presented (i := .layerSet g f) h e
  | buttonSet g f => exact k.presented (i := .buttonSet g f) h e
  | loadOpen g f => exact k.presented (i := .loadOpen g f) h e
  | loadSegment g f => exact k.presented (i := .loadSegment g f) h e
  | loadClose g f => exact k.presented (i := .loadClose g f) h e
  | loadAbort g f => exact k.presented (i := .loadAbort g f) h e
  | placeCross g f => exact k.presented (i := .placeCross g f) h e
  | suspendDrag g f => exact k.presented (i := .suspendDrag g f) h e
  | resumeDrag g f => exact k.presented (i := .resumeDrag g f) h e
  | cancelDrag g f => exact k.presented (i := .cancelDrag g f) h e
  | clearFault g f => exact k.presented (i := .clearFault g f) h e
  | mark g f => exact k.presented (i := .mark g f) h e
  | status g f => exact k.presented (i := .status g f) h e
  | describe g f => exact k.presented (i := .describe g f) h e
  | resetEnable g f => exact k.presented (i := .resetEnable g f) h e
  | reset g f => exact k.presented (i := .reset g f) h e
  | unknownOrder c g f => exact k.presented (i := .unknownOrder c g f) h e

/-- What every operation keeps, every step keeps. -/
theorem Keeps.step (k : Keeps P) {s t : State} (h : P s) (e : step s = .next t) : P t := by
  unfold Machine.step at e
  split at e
  · cases e; exact h
  · exact k.exec (k.pending _ _ h) e

end Sys2Proof.Machine
end

