-- ==== Sys2Proof/Laws/Held.lean ====
section
/-! SUPPORT. No operation behind the stream port reads what is held at the port, so an item held there
behind others is dealt with, once they are, as if it were then presented (R13, R20). -/

namespace Sys2Proof.Machine

/-- An operation that neither reads nor changes what is held at the stream port. -/
def LineBlind (f : State → State) : Prop :=
  ∀ (l : List Instr) (s : State), f (s.setPortLine l) = (f s).setPortLine l

/-- An order's answer with what is held at the stream port replaced. -/
def Answer.setLine (a : Answer) (l : List Instr) : Answer :=
  { a with state := a.state.setPortLine l }

/-- An order's owner that neither reads nor changes what is held at the stream port. -/
def OwnerBlind (f : State → Answer) : Prop :=
  ∀ (l : List Instr) (s : State), f (s.setPortLine l) = (f s).setLine l

theorem LineBlind.at {f : State → State} (h : LineBlind f) {l : List Instr} {u v : State}
    (e : u = v.setPortLine l) : f u = (f v).setPortLine l := e ▸ h l v

/-- A choice between two changes that do not look at the port. -/
theorem ite_setPortLine (c : Prop) [Decidable c] (a b : State) (l : List Instr) :
    (if c then a.setPortLine l else b.setPortLine l) = (if c then a else b).setPortLine l :=
  (apply_ite (fun u : State => u.setPortLine l) c a b).symm

theorem issueHeldFrameEnd_blind : LineBlind issueHeldFrameEnd := by
  intro l s
  unfold issueHeldFrameEnd
  rcases h : s.decoder.inHand with _ | low | low <;> simp only [State.setPortLine_decoder, h]
  refine Eq.trans ?_ (ite_setPortLine _ _ _ l)
  rfl

theorem issueGeneratedFrameEnd_blind : LineBlind issueGeneratedFrameEnd := by
  intro l s
  unfold issueGeneratedFrameEnd
  refine Eq.trans ?_ (ite_setPortLine _ _ _ l)
  rfl

theorem openFrame_blind (low : Low) : LineBlind (openFrame low) := fun _ _ => rfl

theorem takeFrameStart_blind (low : Low) : LineBlind (takeFrameStart low) := by
  intro l s
  unfold takeFrameStart
  have e : (clearArmed (s.setPortLine l)).decoder.phase = (clearArmed s).decoder.phase := rfl
  rcases h : (clearArmed s).decoder.phase <;> simp only [e, h]
  · rfl
  · exact issueGeneratedFrameEnd_blind.at rfl
  all_goals rfl

theorem takeFrameEnd_blind (low : Low) : LineBlind (takeFrameEnd low) := by
  intro l s
  unfold takeFrameEnd
  have e : (clearArmed (s.setPortLine l)).decoder.phase = (clearArmed s).decoder.phase := rfl
  rcases h : (clearArmed s).decoder.phase <;> simp only [e, h]
  · rfl
  · exact issueHeldFrameEnd_blind.at rfl
  all_goals rfl

theorem takeTagOpen_blind (layer : BitVec 8) (entity : BitVec 16) :
    LineBlind (takeTagOpen layer entity) := by
  intro l s
  unfold takeTagOpen
  refine Eq.trans ?_ (ite_setPortLine _ _ _ l)
  rfl

theorem takeTagClose_blind : LineBlind takeTagClose := by
  intro l s
  unfold takeTagClose
  refine Eq.trans ?_ (ite_setPortLine _ _ _ l)
  rfl

theorem enqueueBeforeReply_blind (r : Report) : LineBlind (enqueueBeforeReply · r) := by
  intro l s
  unfold enqueueBeforeReply
  refine Eq.trans ?_ (ite_setPortLine _ _ _ l)
  rfl

theorem enqueueEachBeforeReply_blind (rs : List Report) (l : List Instr) (s : State) :
    rs.foldl enqueueBeforeReply (s.setPortLine l) =
      (rs.foldl enqueueBeforeReply s).setPortLine l := by
  induction rs generalizing s with
  | nil => rfl
  | cons r rs ih =>
    rw [List.foldl_cons, List.foldl_cons, (enqueueBeforeReply_blind r).at rfl, ih]

/-- An order's taking does not look at the port if its owner does not. -/
theorem takeOrder_blind (code tag : BitVec 8) (ok : Bool) {owner : State → Answer}
    (h : OwnerBlind owner) : LineBlind (takeOrder code tag ok owner) := by
  intro l s
  have k : owner (clearArmed (s.setPortLine l)) = (owner (clearArmed s)).setLine l :=
    h l (clearArmed s)
  cases ok with
  | false => rfl
  | true =>
    simp only [takeOrder, if_true, k]
    refine (congrArg (enqueue _) (enqueueEachBeforeReply_blind _ l _)).trans ?_
    rfl

theorem ite_setLine (c : Prop) [Decidable c] (a b : Answer) (l : List Instr) :
    (if c then a.setLine l else b.setLine l) = (if c then a else b).setLine l :=
  (apply_ite (fun u : Answer => u.setLine l) c a b).symm

theorem setParameterOwner_blind (f : List Word) : OwnerBlind (setParameterOwner f) := by
  intro l s
  unfold setParameterOwner
  dsimp only
  rcases paramOf (bits (fieldWord f 0) 31 16) <;> rfl

theorem setModesOwner_blind (f : List Word) : OwnerBlind (setModesOwner f) := by
  intro l s
  unfold setModesOwner
  rcases settingsOf (fieldWord f 0) with _ | m
  · rfl
  · refine Eq.trans ?_ (ite_setLine _ _ _ l)
    rfl

theorem layerSetOwner_blind (f : List Word) : OwnerBlind (layerSetOwner f) := by
  intro l s
  unfold layerSetOwner
  dsimp only
  simp only [← ite_setLine]
  rfl

theorem buttonSetOwner_blind (f : List Word) : OwnerBlind (buttonSetOwner f) := by
  intro l s
  unfold buttonSetOwner
  dsimp only [State.setPortLine_banks]
  rcases placeAt s.banks.menuLive (bits (fieldWord f 0) 15 8) with _ | b <;>
    (simp only [← ite_setLine]; rfl)

theorem loadOpenOwner_blind (f : List Word) : OwnerBlind (loadOpenOwner f) := by
  intro l s
  unfold loadOpenOwner
  dsimp only
  rcases tableOf (fieldWord f 0) with _ | t
  · rfl
  · dsimp only [State.setPortLine_loads]
    rcases s.loads.get t with _ | _ | _ <;> (try simp only [← ite_setLine]) <;> cases t <;> rfl

theorem loadSegmentOwner_blind (f : List Word) : OwnerBlind (loadSegmentOwner f) := by
  intro l s
  unfold loadSegmentOwner
  dsimp only
  rcases tableOf (fieldWord f 0) with _ | t
  · rfl
  · dsimp only [State.setPortLine_loads, State.setPortLine_banks]
    rcases s.loads.get t with _ | _ | _ <;> (try simp only [← ite_setLine]) <;>
      rcases writeSegment t s.banks (bits (fieldWord f 0) 23 16) (bits (fieldWord f 0) 7 0) f.tail <;> rfl

theorem loadCloseOwner_blind (f : List Word) : OwnerBlind (loadCloseOwner f) := by
  intro l s
  unfold loadCloseOwner
  rcases tableOf (fieldWord f 0) with _ | t
  · rfl
  · dsimp only [State.setPortLine_loads, State.setPortLine_banks]
    rcases s.loads.get t with _ | _ | _ <;> (try simp only [← ite_setLine]) <;> cases t <;> rfl

theorem loadAbortOwner_blind (f : List Word) : OwnerBlind (loadAbortOwner f) := by
  intro l s
  unfold loadAbortOwner
  rcases tableOf (fieldWord f 0) with _ | t
  · rfl
  · dsimp only [State.setPortLine_loads]
    rcases s.loads.get t with _ | _ | _ <;> rfl

theorem placeCrossOwner_blind (f : List Word) : OwnerBlind (placeCrossOwner f) := by
  intro l s
  unfold placeCrossOwner
  simp only [← ite_setLine]
  rfl

theorem suspendDragOwner_blind : OwnerBlind suspendDragOwner := by
  intro l s
  unfold suspendDragOwner
  dsimp only [State.setPortLine_tracking]
  rcases s.tracking.drag with _ | d <;> (try simp only [← ite_setLine]) <;> rfl

theorem resumeDragOwner_blind : OwnerBlind resumeDragOwner := by
  intro l s
  unfold resumeDragOwner
  dsimp only [State.setPortLine_tracking]
  rcases s.tracking.drag with _ | d <;> (try simp only [← ite_setLine]) <;> rfl

theorem cancelDragOwner_blind : OwnerBlind cancelDragOwner := by
  intro l s
  unfold cancelDragOwner
  dsimp only [State.setPortLine_tracking]
  rcases s.tracking.drag with _ | d <;> rfl

theorem clearFaultOwner_blind (f : List Word) : OwnerBlind (clearFaultOwner f) := by
  intro l s
  unfold clearFaultOwner
  simp only [← ite_setLine]
  rfl

/-- An owner that only answers. -/
theorem answering_blind (st : Status) (p : Payload) :
    OwnerBlind fun s0 => { state := s0, status := st, payload := p } := fun _ _ => rfl

theorem resetEnableOwner_blind :
    OwnerBlind fun s0 => accept (s0.setOrders { s0.orders with armed := true }) := fun _ _ => rfl

theorem takeStatus_blind (tag : BitVec 8) (f : List Word) : LineBlind (takeStatus tag f) :=
  fun l s => takeOrder_blind _ _ _ (answering_blind .accepted (.status (statusData s))) l s

theorem takeReset_blind (tag : BitVec 8) (f : List Word) : LineBlind (takeReset tag f) := by
  intro l s
  unfold takeReset
  dsimp only
  simp only [← ite_setPortLine]
  rfl

/-- The taking of an item neither reads nor changes what is held at the port. -/
theorem take_blind (i : Instr) : LineBlind (take i) := by
  cases i with
  | frameStart low pins => exact takeFrameStart_blind low
  | frameEnd low => exact takeFrameEnd_blind low
  | tagOpen l e => exact takeTagOpen_blind l e
  | tagClose => exact takeTagClose_blind
  | setParameter t f => exact takeOrder_blind _ _ _ (setParameterOwner_blind f)
  | setModes t f => exact takeOrder_blind _ _ _ (setModesOwner_blind f)
  | layerSet t f => exact takeOrder_blind _ _ _ (layerSetOwner_blind f)
  | buttonSet t f => exact takeOrder_blind _ _ _ (buttonSetOwner_blind f)
  | loadOpen t f => exact takeOrder_blind _ _ _ (loadOpenOwner_blind f)
  | loadSegment t f => exact takeOrder_blind _ _ _ (loadSegmentOwner_blind f)
  | loadClose t f => exact takeOrder_blind _ _ _ (loadCloseOwner_blind f)
  | loadAbort t f => exact takeOrder_blind _ _ _ (loadAbortOwner_blind f)
  | placeCross t f => exact takeOrder_blind _ _ _ (placeCrossOwner_blind f)
  | suspendDrag t f => exact takeOrder_blind _ _ _ suspendDragOwner_blind
  | resumeDrag t f => exact takeOrder_blind _ _ _ resumeDragOwner_blind
  | cancelDrag t f => exact takeOrder_blind _ _ _ cancelDragOwner_blind
  | clearFault t f => exact takeOrder_blind _ _ _ (clearFaultOwner_blind f)
  | mark t f => exact takeOrder_blind _ _ _ (answering_blind .accepted _)
  | status t f => exact takeStatus_blind t f
  | describe t f => exact takeOrder_blind _ _ _ (answering_blind .accepted .describe)
  | resetEnable t f => exact takeOrder_blind _ _ _ resetEnableOwner_blind
  | reset t f => exact takeReset_blind t f
  | unknownOrder c t f => exact takeOrder_blind _ _ _ fun _ _ => rfl
  | _ => exact fun _ _ => rfl

/-! ## The completion -/

theorem raiseLink_blind (c : LinkCause) : LineBlind (raiseLink c) := by
  intro l s
  unfold raiseLink
  refine Eq.trans ?_ (ite_setPortLine _ _ _ l)
  rfl

theorem closeNormal_blind : LineBlind closeNormal := fun _ _ => rfl

theorem closeUnclosed_blind : LineBlind closeUnclosed := by
  intro l s
  unfold closeUnclosed
  dsimp only [State.setPortLine_decoder]
  rcases s.decoder.inHand with _ | low | low <;> rfl

theorem closeFrame_blind : LineBlind closeFrame := by
  intro l s
  unfold closeFrame
  dsimp only [State.setPortLine_decoder]
  rcases s.decoder.phase
  case unclosing => exact closeUnclosed_blind l s
  all_goals rfl

theorem completeEffect_blind (q : Nat) : LineBlind (completeEffect q) := by
  intro l s
  unfold completeEffect
  dsimp only [State.setPortLine_trail]
  rcases s.trail.named q with _ | ⟨n, e⟩
  · exact raiseLink_blind _ l s
  · refine Eq.trans ?_ (ite_setPortLine _ _ _ l)
    refine ite_congr rfl (fun _ => raiseLink_blind _ l s) fun _ => ?_
    refine Eq.trans ?_ (ite_setPortLine _ _ _ l)
    exact ite_congr rfl (fun _ => closeFrame_blind.at rfl) fun _ => rfl

theorem endDrain_blind : LineBlind endDrain := by
  intro l s
  unfold endDrain
  dsimp only [State.setPortLine_orders]
  rcases s.orders.inHand with _ | tag
  · rfl
  · refine Eq.trans ?_ (ite_setPortLine _ _ _ l)
    rfl

theorem takeCompletion_blind (q : Nat) : LineBlind (takeCompletion q) := by
  intro l s
  unfold takeCompletion
  refine Eq.trans ?_ (ite_setPortLine _ _ _ l)
  rw [completeEffect_blind, endDrain_blind]
  rfl

/-! ## The draining of the port -/

/-- Which causes hold an item does not depend on what is held behind it. -/
theorem stallCauses_setPortLine (i : Instr) (s : State) (l : List Instr) :
    stallCauses i (s.setPortLine l) = stallCauses i s := rfl

theorem drain_setPortLine (line l : List Instr) (s : State) :
    drain line (s.setPortLine l) = drain line s := by
  induction line generalizing s with
  | nil => rfl
  | cons i rest ih =>
    unfold drain
    rw [stallCauses_setPortLine, take_blind, ih]
    rfl

/-- Draining a line is draining all of it but its last item, and then what is left with that item. -/
theorem drain_snoc (line : List Instr) (i : Instr) (s : State) :
    drain (line ++ [i]) s = drain ((drain line s).portLine ++ [i]) (drain line s) := by
  induction line generalizing s with
  | nil => exact (drain_setPortLine [i] [] s).symm
  | cons j rest ih =>
    by_cases h : stallCauses j s = []
    · rw [List.cons_append, drain_taken h, drain_taken h, ih]
    · rw [List.cons_append, drain_held h, drain_held h]
      exact ((drain_setPortLine _ _ s).trans (drain_held h)).symm

/-- The item a draining leaves at the head of the port is held by some cause. -/
theorem drain_head_held (line : List Instr) (s : State) :
    ∀ i rest, (drain line s).portLine = i :: rest → stallCauses i (drain line s) ≠ [] := by
  induction line generalizing s with
  | nil => intro i rest h; cases h
  | cons j rest ih =>
    by_cases h : stallCauses j s = []
    · rw [drain_taken h]; exact ih _
    · rw [drain_held h]; intro i r e; cases e; exact h

/-- An item that is not taken at once waits behind the items held. -/
theorem present_waits {i : Instr} {s : State} (low : s.resetLow = false)
    (head : ∀ j rest, s.portLine = j :: rest → stallCauses j s ≠ []) (h : ¬s.takesAtOnce i) :
    present i s = s.setPortLine (s.portLine ++ [i]) := by
  unfold present
  rw [if_neg (by simp [low])]
  rcases e : s.portLine with _ | ⟨j, rest⟩
  · exact drain_held fun free => h ⟨low, e, free⟩
  · exact drain_held (head j rest e)

/-- The levels a held item carries are not those its taking reads. -/
theorem take_atPins (p : Pins) (i : Instr) (s : State) : take (atPins p i) s = take i s := by
  cases i <;> rfl

/-- Draining leaves the lines as they are. -/
theorem drain_resetLow (line : List Instr) (s : State) :
    (drain line s).resetLow = s.resetLow :=
  drain_keeps (P := fun u => u.resetLow = s.resetLow) line s (fun _ _ h => h)
    (fun i u _ h => (take_ports i u).resetLow.trans h) rfl

/-- A command that drains the port after work that does not look at it treats an item held last as if it
were presented in the state the command leaves without it. -/
theorem drainPort_snoc {f : State → State} (hf : LineBlind f) (line : List Instr) (i : Instr)
    (s : State) (h : (f s).resetLow = false) :
    drainPort (f (s.setPortLine (line ++ [i]))) = present i (drainPort (f (s.setPortLine line))) := by
  have e (l : List Instr) : drainPort (f (s.setPortLine l)) = drain l (f s) := by
    rw [hf]
    exact drain_setPortLine l l (f s)
  rw [e, e, drain_snoc]
  unfold present
  rw [drain_resetLow, h]
  rfl

end Sys2Proof.Machine
end

