-- ==== Sys2Proof/Laws/Ops.lean ====
section
/-! SUPPORT. One lemma for each shared operation, saying once everything it does where it succeeds: the
queue, the interleaving of several blocks' reports, issue, the completing of a run of entries, the
taking of a presented item, and the taking of an order that queues nothing but its REPLY. -/

namespace Sys2Proof.Machine

/-! ## The queue (R170) -/

theorem ReturnLane.enqueue_room {l : ReturnLane} (h : l.queue.length < 32) (r : Report) :
    l.enqueue r = { l with queue := l.queue ++ [r] } := if_pos h

theorem ReturnLane.enqueue_full {l : ReturnLane} (h : 32 ≤ l.queue.length) (r : Report) :
    l.enqueue r = { l with lost := min (l.lost + 1) 65535 } := if_neg (Nat.not_lt.mpr h)

theorem ReturnLane.enqueueAll_room {l : ReturnLane} {rs : List Report}
    (h : l.queue.length + rs.length ≤ 32) :
    l.enqueueAll rs = { l with queue := l.queue ++ rs } := by
  induction rs generalizing l with
  | nil => simp [ReturnLane.enqueueAll]
  | cons r rs ih =>
    have room : l.queue.length < 32 := by simp only [List.length_cons] at h; omega
    have e : l.enqueueAll (r :: rs) = (l.enqueue r).enqueueAll rs := rfl
    have more : (l.queue ++ [r]).length + rs.length ≤ 32 := by
      simp only [List.length_append, List.length_cons, List.length_nil] at h ⊢; omega
    rw [e, ReturnLane.enqueue_room room, ih more]
    simp only [List.append_assoc, List.singleton_append]

theorem enqueue_room {s : State} (h : s.lane.queue.length < 32) (r : Report) :
    enqueue r s = s.setLane { s.lane with queue := s.lane.queue ++ [r] } := by
  unfold enqueue
  rw [ReturnLane.enqueue_room h]

/-! ## Several blocks' reports at one event (R83, R99, log entry 1) -/

/-- Blocks with no report add nothing. -/
theorem flatten_nonempty (blocks : List (List Report)) :
    (blocks.filter fun b => !b.isEmpty).flatten = blocks.flatten := by
  induction blocks with
  | nil => rfl
  | cons b bs ih => cases b <;> simp [ih]

/-- Taking the first report off the block at place `i`. -/
theorem split_at {bs : List (List Report)} {i : Nat} (hi : i < bs.length) (hne : bs[i] ≠ []) :
    ∃ r, (bs.getD i []).take 1 = [r] ∧ bs.flatten.Perm (r :: (bs.modify i List.tail).flatten) ∧
      ∀ b ∈ bs, b ∈ bs.modify i List.tail ∨ ∃ c ∈ bs.modify i List.tail, b = r :: c := by
  induction bs generalizing i with
  | nil => simp at hi
  | cons b bs ih =>
    cases i with
    | zero =>
      cases b with
      | nil => simp at hne
      | cons r c =>
        refine ⟨r, rfl, by simp, ?_⟩
        intro x hx
        rcases List.mem_cons.mp hx with rfl | hx
        · exact .inr ⟨c, by simp, rfl⟩
        · exact .inl (by simp [hx])
    | succ i =>
      obtain ⟨r, h1, h2, h3⟩ := ih (by simpa using hi) (by simpa using hne)
      refine ⟨r, by simpa using h1, ?_, ?_⟩
      · simp only [List.flatten_cons, List.modify_succ_cons]
        exact (h2.append_left b).trans List.perm_middle
      · intro x hx
        rcases List.mem_cons.mp hx with rfl | hx
        · exact .inl (by simp)
        · rcases h3 x hx with h | ⟨c, hc, e⟩
          · exact .inl (by simp [h])
          · exact .inr ⟨c, by simp [hc], e⟩

/-- Whatever the free choices, the interleaving holds every block's reports, each block's in its order, and
nothing else. -/
theorem interleave_merges (fuel k : Nat) (blocks : List (List Report))
    (h : blocks.flatten.length < fuel) :
    (interleave fuel k blocks).1.Perm blocks.flatten ∧
      ∀ b ∈ blocks, b.Sublist (interleave fuel k blocks).1 := by
  induction fuel generalizing k blocks with
  | zero => omega
  | succ fuel ih =>
    have full := flatten_nonempty blocks
    have mem : ∀ b ∈ blocks, b = [] ∨ b ∈ blocks.filter fun b => !b.isEmpty := by
      intro b hb
      cases b with
      | nil => exact .inl rfl
      | cons => exact .inr (by simp [hb])
    have ne : ∀ b ∈ blocks.filter (fun b => !b.isEmpty), b ≠ [] := by
      intro b hb; simpa using (List.mem_filter.mp hb).2
    unfold interleave
    generalize blocks.filter (fun b => !b.isEmpty) = several at full mem ne
    match several with
    | [] =>
      simp only [List.flatten_nil] at full
      refine ⟨by rw [← full], fun b hb => ?_⟩
      rcases mem b hb with rfl | h
      · exact List.Sublist.refl _
      · cases h
    | [one] =>
      simp only [List.flatten_cons, List.flatten_nil, List.append_nil] at full
      refine ⟨by rw [← full], fun b hb => ?_⟩
      rcases mem b hb with rfl | h
      · exact List.nil_sublist _
      · rw [List.mem_singleton.mp h]
    | a :: b :: more =>
      dsimp only
      have hi : Config.reportOrder k % (a :: b :: more).length < (a :: b :: more).length :=
        Nat.mod_lt _ (by simp)
      generalize Config.reportOrder k % (a :: b :: more).length = i at hi
      generalize a :: b :: more = bs at *
      obtain ⟨r, h1, h2, h3⟩ := split_at hi (ne _ (List.getElem_mem hi))
      have len : (bs.modify i List.tail).flatten.length < fuel := by
        have := h2.length_eq; rw [full] at this; simp only [List.length_cons] at this; omega
      obtain ⟨p, q⟩ := ih (k + 1) _ len
      rw [h1]
      refine ⟨?_, fun x hx => ?_⟩
      · rw [← full]
        exact (List.Perm.cons r p).trans h2.symm
      · rcases mem x hx with rfl | hx
        · exact List.nil_sublist _
        · rcases h3 x hx with h | ⟨c, hc, rfl⟩
          · exact (q x h).trans (List.sublist_cons_self _ _)
          · exact (q c hc).cons_cons r
/-- With room for all, the reports of several blocks are appended, interleaved. -/
theorem enqueueBlocks_room {blocks : List (List Report)} {s : State}
    (h : s.lane.queue.length + blocks.flatten.length ≤ 32) :
    ∃ m k, enqueueBlocks blocks s =
        (s.setLane { s.lane with queue := s.lane.queue ++ m }).setFreeIndex k ∧
      m.Perm blocks.flatten ∧ ∀ b ∈ blocks, b.Sublist m := by
  obtain ⟨p, q⟩ := interleave_merges (blocks.flatten.length + 1) s.freeIndex blocks (by omega)
  refine ⟨_, (interleave (blocks.flatten.length + 1) s.freeIndex blocks).2, ?_, p, q⟩
  unfold enqueueBlocks
  dsimp only
  rw [ReturnLane.enqueueAll_room (by rw [p.length_eq]; exact h)]

/-! ## Issue and completion (R3, R18, R34 to R36) -/

theorem frameMark_eq (s : State) : s.frameMark = s.frameNow := by
  unfold State.frameMark State.frameNow State.frameOpen
  cases s.decoder.phase <;> rfl

theorem streamOrigin_eq (s : State) : s.streamOrigin = s.pathNow := rfl

theorem issue_eq (it : Item) (o : Origin) (s : State) :
    issue it o s = s.issued
      { seq := s.trail.nextSeq, kind := it.kind, origin := o, start := s.decoder.beam,
        stop := it.stop, length := it.length, lit := it.lit, glyph := it.glyph,
        frame := s.frameNow, completed := false } it.words := by
  rw [← frameMark_eq]
  unfold issue Trail.append State.issued entryOf
  have e : s.trail.entries.length + 1 - Config.trail = s.trail.entries.length - 47 := by
    unfold Config.trail; omega
  rw [e]
  rfl

theorem complete_eq (t : Trail) (i : Nat) : t.complete i = t.retired i := by
  unfold Trail.complete Trail.retired Trail.run
  congr 1
  apply List.ext_getElem?
  intro j
  rw [List.getElem?_mapIdx]
  by_cases h : j ≤ i
  · by_cases k : j < t.entries.length
    · rw [List.getElem?_append_left (by simp; omega)]
      simp [h, Nat.lt_succ_of_le h]
    · have : t.entries[j]? = none := by simpa using k
      rw [this]
      simp
      omega
  · rw [List.getElem?_append]
    split
    · rename_i g; simp at g; omega
    · rename_i g
      simp only [List.length_map, List.length_take] at g ⊢
      by_cases k : i + 1 ≤ t.entries.length
      · rw [Nat.min_eq_left k, List.getElem?_drop]
        have : i + 1 + (j - (i + 1)) = j := by omega
        rw [this]
        cases t.entries[j]? <;> simp_all
      · have n : t.entries[j]? = none := by simp; omega
        rw [n]
        simp
        omega

/-! ## Taking a presented item -/

theorem room_of_takes {i : Instr} {s : State} (h : s.takesAtOnce i) (o : i.isOrder = true) :
    s.lane.queue.length < 32 := by
  refine Nat.lt_of_not_le fun c => ?_
  have k := h.2.2
  simp [stallCauses, o, Config.queue, c] at k

theorem window_of_takes {i : Instr} {s : State} (h : s.takesAtOnce i)
    (w : wouldIssue i s = true) : s.trail.outstanding < 16 := by
  refine Nat.lt_of_not_le fun c => ?_
  have k := h.2.2
  have n : ¬s.trail.outstanding < 16 := Nat.not_lt.mpr c
  simp [stallCauses, w, State.windowOpen, Config.window, n] at k

/-- A stream item that nothing holds is taken in the event that presents it, at the pen lines it brings. -/
theorem exec_takes {i : Instr} {s : State} (st : i.isStreamItem = true) (w : i.wellFormed = true)
    (h : s.takesAtOnce i) : exec i s = .next (take i (s.setPins (s.seenPins i))) := by
  have e : exec i s = presented i (s.setPins (s.seenPins i)) := by cases i <;> first | rfl | cases st
  rw [e]
  exact presented_takes w h

/-! ## Taking an order (R156, R157, R159) -/

/-- An order of an admitted length whose owner answers `⟨u, st, p, []⟩` and queues nothing itself: the
owner's state, and the REPLY. -/
theorem takeOrder_plain {code tag : BitVec 8} {owner : State → Answer} {s u : State} {st : Status}
    {p : Payload} (h : s.lane.queue.length < 32) (e : owner s.unarmed = ⟨u, st, p, []⟩)
    (l : u.lane = s.lane) :
    takeOrder code tag true owner s = { u with
      lane := { s.lane with queue := s.lane.queue ++
        [.reply tag code s.decoder.frame (s.decoder.phase != .idle) st p] } } := by
  change enqueue (.reply tag code s.decoder.frame (s.decoder.phase != .idle) (owner s.unarmed).status
    (owner s.unarmed).payload) ((owner s.unarmed).extra.foldl enqueueBeforeReply
      (owner s.unarmed).state) = _
  rw [e, List.foldl_nil, enqueue_room (by rw [l]; exact h), l]
  rfl

/-- An order that fails its length test reaches no owner. -/
theorem takeOrder_badLength {code tag : BitVec 8} {owner : State → Answer} {s : State}
    (h : s.lane.queue.length < 32) :
    takeOrder code tag false owner s = s.replied tag code (.refused .badField) .absent := by
  change enqueue _ s.unarmed = _
  rw [enqueue_room (by exact h)]
  rfl

end Sys2Proof.Machine
end

