-- ==== Sys2Proof/Laws/PerInstr.lean ====
section
/-! SUPPORT. Laws of every command as syntax, one lemma for each constructor. `WordCount`: the words that
spell a well-formed stream item are as many as the first of them announces (R2). -/

namespace Sys2Proof.Laws

/-! ## The first words -/

theorem kindOf_toNat (w : Word) : (kindOf w).toNat = w.toNat / 2 ^ 24 % 256 := by
  simp [kindOf, BitVec.extractLsb'_toNat, Nat.shiftRight_eq_div_pow]

theorem lowOf_toNat (w : Word) : (lowOf w).toNat = w.toNat % 2 ^ 24 := by
  simp [lowOf, BitVec.extractLsb'_toNat]

theorem firstWord_toNat (k : BitVec 8) (low : Low) :
    (firstWord k low).toNat = k.toNat * 2 ^ 24 + low.toNat := by
  rw [firstWord, BitVec.toNat_append, Nat.shiftLeft_eq, Nat.mul_comm, Nat.two_pow_add_eq_or_of_lt low.isLt]

theorem kindOf_firstWord (k : BitVec 8) (low : Low) : kindOf (firstWord k low) = k := by
  apply BitVec.eq_of_toNat_eq
  have h := k.isLt
  have l := low.isLt
  rw [kindOf_toNat, firstWord_toNat]
  omega

theorem lowOf_firstWord (k : BitVec 8) (low : Low) : lowOf (firstWord k low) = low := by
  apply BitVec.eq_of_toNat_eq
  have l := low.isLt
  rw [lowOf_toNat, firstWord_toNat]
  omega

theorem orderHeader_toNat (c t : BitVec 8) {n : Nat} (h : n ≤ 63) :
    (orderHeader c t n).toNat = 16 * 2 ^ 24 + c.toNat * 2 ^ 16 + t.toNat * 2 ^ 8 + n := by
  have hc := c.isLt
  have ht := t.isLt
  simp only [orderHeader, put, BitVec.toNat_ofNat]
  omega

theorem wordsAfter_order (c t : BitVec 8) {n : Nat} (h : n ≤ 63) :
    wordsAfter (orderHeader c t n) = n := by
  have hc := c.isLt
  have ht := t.isLt
  have k : (kindOf (orderHeader c t n)).toNat = 16 := by
    rw [kindOf_toNat, orderHeader_toNat c t h]; omega
  have b : bits (orderHeader c t n) 5 0 = n := by
    rw [bits, orderHeader_toNat c t h]; omega
  simp [wordsAfter, k, b]

/-- The words of an order as many as its header announces. -/
theorem order_count {c t : BitVec 8} {f : List Word} (h : (f.length ≤ 63 : Prop)) :
    f.length = wordsAfter (orderHeader c t f.length) := (wordsAfter_order c t h).symm

/-- R2: how many words an item announces, from its kind and its low bits. -/
theorem wordsAfter_first (k : BitVec 8) (low : Low) : wordsAfter (firstWord k low) =
    if k.toNat = 0x04 then 1
    else if k.toNat = 0x05 then glyphWords low
    else if k.toNat = 0x10 then bits (firstWord k low) 5 0
    else if 0x11 ≤ k.toNat ∧ k.toNat ≤ 0x1F then low.toNat % 32
    else 0 := by
  have l : bits (firstWord k low) 4 0 = low.toNat % 32 := by
    rw [bits, firstWord_toNat]; omega
  simp only [wordsAfter, kindOf_firstWord, lowOf_firstWord, l]

/-- The words after the first, where the table of kinds settles how many. -/
theorem first_count {k : BitVec 8} {low : Low} {n : Nat}
    (h : (if k.toNat = 0x04 then 1
      else if k.toNat = 0x05 then glyphWords low
      else if k.toNat = 0x10 then bits (firstWord k low) 5 0
      else if 0x11 ≤ k.toNat ∧ k.toNat ≤ 0x1F then low.toNat % 32
      else 0) = n) : n = wordsAfter (firstWord k low) := h.symm.trans (wordsAfter_first k low).symm

/-! ## The family -/

/-- R2: the words of a well-formed stream item after its first are as many as the first announces. -/
def WordCount.Statement (i : Instr) : Prop :=
  i.isStreamItem = true → i.wellFormed = true →
    ∃ w ws, encodeItem i = w :: ws ∧ ws.length = wordsAfter w

/-- A command that is no stream item has no words. -/
theorem WordCount.other {i : Instr} (h : i.isStreamItem = false) : WordCount.Statement i :=
  fun t => Bool.noConfusion (h.symm.trans t)

namespace WordCount

theorem frameStart (low : Low) (pins : Pins) : Statement (.frameStart low pins) :=
  fun _ _ => ⟨_, _, rfl, first_count rfl⟩
theorem frameEnd (low : Low) : Statement (.frameEnd low) :=
  fun _ _ => ⟨_, _, rfl, first_count rfl⟩
theorem move (x y : BitVec 12) : Statement (.move x y) :=
  fun _ _ => ⟨_, _, rfl, first_count rfl⟩
theorem stroke (low : Low) (point : Word) : Statement (.stroke low point) :=
  fun _ _ => ⟨_, _, rfl, first_count rfl⟩
theorem glyphRun (low : Low) (codes : List Word) : Statement (.glyphRun low codes) :=
  fun _ h => ⟨_, _, rfl, (eq_of_beq h).trans (first_count (k := 0x05) rfl)⟩
theorem opaqueItem (kind : BitVec 8) (low : Low) (rest : List Word) :
    Statement (.opaqueItem kind low rest) := fun _ h => ⟨_, _, rfl, by
  simp only [Instr.wellFormed, oneWordOpaque, longOpaque, Bool.or_eq_true, Bool.and_eq_true,
    beq_iff_eq, decide_eq_true_eq] at h
  rw [wordsAfter_first]
  split_ifs <;> omega⟩
theorem tagOpen (layer : BitVec 8) (entity : BitVec 16) : Statement (.tagOpen layer entity) :=
  fun _ _ => ⟨_, _, rfl, first_count rfl⟩
theorem tagClose : Statement .tagClose :=
  fun _ _ => ⟨_, _, rfl, first_count rfl⟩
theorem frameEndIssue : Statement .frameEndIssue := other rfl
theorem generatedFrameEndIssue : Statement .generatedFrameEndIssue := other rfl
theorem overlayItemIssue : Statement .overlayItemIssue := other rfl
theorem completionNotice (seq : BitVec 8) (pins : Pins) : Statement (.completionNotice seq pins) := other rfl
theorem hitNotice (seq : BitVec 8) (elapsed : BitVec 13) : Statement (.hitNotice seq elapsed) := other rfl
theorem unknownNotice (word : Word) : Statement (.unknownNotice word) := other rfl
theorem syncArrival : Statement .syncArrival := other rfl
theorem resetLineAssert : Statement .resetLineAssert := other rfl
theorem resetLineRelease (pins : Pins) : Statement (.resetLineRelease pins) := other rfl
theorem reportStart (pins : Pins) : Statement (.reportStart pins) := other rfl
theorem reportEnd : Statement .reportEnd := other rfl
theorem inBandResetPerformed (pins : Pins) : Statement (.inBandResetPerformed pins) := other rfl
theorem setParameter (t : BitVec 8) (f : List Word) : Statement (.setParameter t f) :=
  fun _ h => ⟨_, _, rfl, order_count (of_decide_eq_true h)⟩
theorem setModes (t : BitVec 8) (f : List Word) : Statement (.setModes t f) :=
  fun _ h => ⟨_, _, rfl, order_count (of_decide_eq_true h)⟩
theorem layerSet (t : BitVec 8) (f : List Word) : Statement (.layerSet t f) :=
  fun _ h => ⟨_, _, rfl, order_count (of_decide_eq_true h)⟩
theorem buttonSet (t : BitVec 8) (f : List Word) : Statement (.buttonSet t f) :=
  fun _ h => ⟨_, _, rfl, order_count (of_decide_eq_true h)⟩
theorem loadOpen (t : BitVec 8) (f : List Word) : Statement (.loadOpen t f) :=
  fun _ h => ⟨_, _, rfl, order_count (of_decide_eq_true h)⟩
theorem loadSegment (t : BitVec 8) (f : List Word) : Statement (.loadSegment t f) :=
  fun _ h => ⟨_, _, rfl, order_count (of_decide_eq_true h)⟩
theorem loadClose (t : BitVec 8) (f : List Word) : Statement (.loadClose t f) :=
  fun _ h => ⟨_, _, rfl, order_count (of_decide_eq_true h)⟩
theorem loadAbort (t : BitVec 8) (f : List Word) : Statement (.loadAbort t f) :=
  fun _ h => ⟨_, _, rfl, order_count (of_decide_eq_true h)⟩
theorem placeCross (t : BitVec 8) (f : List Word) : Statement (.placeCross t f) :=
  fun _ h => ⟨_, _, rfl, order_count (of_decide_eq_true h)⟩
theorem suspendDrag (t : BitVec 8) (f : List Word) : Statement (.suspendDrag t f) :=
  fun _ h => ⟨_, _, rfl, order_count (of_decide_eq_true h)⟩
theorem resumeDrag (t : BitVec 8) (f : List Word) : Statement (.resumeDrag t f) :=
  fun _ h => ⟨_, _, rfl, order_count (of_decide_eq_true h)⟩
theorem cancelDrag (t : BitVec 8) (f : List Word) : Statement (.cancelDrag t f) :=
  fun _ h => ⟨_, _, rfl, order_count (of_decide_eq_true h)⟩
theorem clearFault (t : BitVec 8) (f : List Word) : Statement (.clearFault t f) :=
  fun _ h => ⟨_, _, rfl, order_count (of_decide_eq_true h)⟩
theorem mark (t : BitVec 8) (f : List Word) : Statement (.mark t f) :=
  fun _ h => ⟨_, _, rfl, order_count (of_decide_eq_true h)⟩
theorem status (t : BitVec 8) (f : List Word) : Statement (.status t f) :=
  fun _ h => ⟨_, _, rfl, order_count (of_decide_eq_true h)⟩
theorem describe (t : BitVec 8) (f : List Word) : Statement (.describe t f) :=
  fun _ h => ⟨_, _, rfl, order_count (of_decide_eq_true h)⟩
theorem resetEnable (t : BitVec 8) (f : List Word) : Statement (.resetEnable t f) :=
  fun _ h => ⟨_, _, rfl, order_count (of_decide_eq_true h)⟩
theorem reset (t : BitVec 8) (f : List Word) : Statement (.reset t f) :=
  fun _ h => ⟨_, _, rfl, order_count (of_decide_eq_true h)⟩
theorem unknownOrder (c t : BitVec 8) (f : List Word) : Statement (.unknownOrder c t f) :=
  fun _ h => ⟨_, _, rfl, order_count (of_decide_eq_true (Bool.and_eq_true_iff.mp h).2)⟩
theorem beamPortWordSent : Statement .beamPortWordSent := other rfl

end WordCount

end Sys2Proof.Laws
end

