-- ==== Sys2Proof/Tests/Slice0.lean ====
section
/-! SUPPORT. The model's own tests: the ill-formed terms that `Instr.wellFormed` refuses, words written out
from Chapter 11 and the commands they spell, the manual's worked examples, and for every statement
with hypotheses a state and operands that meet them (`witness_…`). Each expected value comes from
the manual. -/

open Sys2Proof Sys2Proof.Machine

namespace Sys2Proof.Tests

/-! ## Small states -/

/-- The state a step answers, if it answers one. -/
def after : Host.Outcome State Fault Refusal → Option State
  | .next s => some s
  | _ => none

/-- Both pen lines high: the pen out of its holder, its tip up. -/
def high : Pins := ⟨true, true⟩

/-- An entry of origin LIST with an empty path in frame 1, outstanding, at one place and of length 0. -/
def flat (seq : Nat) (kind : Kind) : Entry :=
  { seq := seq, kind := kind, origin := .list [] none, start := ⟨0, 0⟩, stop := ⟨0, 0⟩, length := 0,
    lit := false, glyph := none, frame := some 1, completed := false }

/-- A Trail of the given entries, oldest first, of which the newest `n` are outstanding. -/
def trailOf (es : List Entry) (n : Nat) : Trail :=
  { entries := es, nextSeq := (es.getLast?.map fun e => (e.seq + 1) % 256).getD 0, outstanding := n }

/-- Frame 1 in the phase given, with its FRAME START alone in the Trail, outstanding. -/
def inPhase (p : Phase) : State :=
  { State.reset with
    decoder := { State.reset.decoder with phase := p, frame := 1 },
    trail := trailOf [flat 0 .frameStart] 1 }

/-- The state with `n` outstanding opaque entries in its Trail. -/
def loaded (n : Nat) (s : State) : State :=
  { s with trail := trailOf ((List.range n).map fun k => flat k .opaqueItem) n }

/-- The state with `n` reports in its queue. -/
def queued (n : Nat) (s : State) : State :=
  { s with lane := { s.lane with queue := List.replicate n (.overflow 1 1) } }

/-- The state with the pen in the state given, out of its holder. -/
def penned (p : PenState) (s : State) : State :=
  { s with pen := { s.pen with state := p, holder := .outside, rawHolder := .outside } }

/-- A drag from the reset centre. -/
def someDrag (suspended pending : Bool) : Drag := ⟨⟨2048, 2048⟩, suspended, pending, 0⟩

/-- The state with that drag. -/
def dragged (suspended pending : Bool) (s : State) : State :=
  { penned .tracking s with
    tracking := { s.tracking with drag := some (someDrag suspended pending) } }

/-- Button 0 of the worked example of Chapter 7: FAIR STATION. -/
def fairStation : Button :=
  { code := 21, kind := .momentary, group := 0, enabled := true, latched := false,
    x := 100, y := 40, w := 400, h := 120,
    label := [0x46, 0x41, 0x49, 0x52, 0x20, 0x53, 0x54, 0x41, 0x54, 0x49, 0x4F, 0x4E] }

/-- Button 2 of that example: BODY. -/
def body : Button :=
  { code := 31, kind := .radio, group := 1, enabled := true, latched := true,
    x := 1000, y := 40, w := 200, h := 120, label := [0x42, 0x4F, 0x44, 0x59] }

/-- Button 3 of that example: PLAN. -/
def plan : Button := { body with code := 32, latched := false, x := 1300,
                                 label := [0x50, 0x4C, 0x41, 0x4E] }

/-- Button 1 of that example: KNOTS. -/
def knots : Button := { fairStation with code := 22, kind := .toggle, latched := true, x := 600,
                                         w := 300, label := [0x4B, 0x4E, 0x4F, 0x54, 0x53] }

/-- Button 5 of that example, which has no label. -/
def bare : Button := { fairStation with code := 40, enabled := false, x := 1600, w := 200,
                                        label := [] }

/-- The places of that example. -/
def menuPlaces : Places :=
  (((((Vector.replicate 24 none).set 0 (some fairStation)).set 1 (some knots)).set 2
    (some body)).set 3 (some plan)).set 5 (some bare)

/-- The state with that menu table live. -/
def menued (s : State) : State :=
  { s with banks := { s.banks with menuLive := { band := some ⟨0, 0, 4095, 200⟩,
                                                 places := menuPlaces } } }

/-- The state with the emission given, its FRAME END in hand. -/
def emitting (e : Emission) (s : State) : State :=
  { s with decoder := { s.decoder with phase := .overlay, inHand := some (.frameEnd 0) },
           overlay := { s.overlay with emission := e, permission := true } }

/-- The state with the press window given. -/
def pressed (k w : Nat) (s : State) : State :=
  { s with resolver := { s.resolver with press := .opened k w } }

/-- Frame 1 in CLOSING with its FRAME END #1 outstanding. -/
def closing : State :=
  { inPhase .closing with trail := trailOf [flat 0 .frameStart, flat 1 .frameEnd] 2 }

/-- Frame 1 in UNCLOSING with its generated FRAME END #1 outstanding. -/
def unclosing : State :=
  { closing with decoder := { closing.decoder with phase := .unclosing,
                                                   inHand := some (.frameStart 0) } }

/-! ## Ill-formed terms -/

theorem smoke_glyphRun : (Instr.glyphRun 0x105 [0]).wellFormed = false ∧
    (Instr.glyphRun 0x105 [0, 0]).wellFormed = true := by decide
theorem smoke_oneWordOpaque : (Instr.opaqueItem 0x20 0 [0]).wellFormed = false ∧
    (Instr.opaqueItem 0x03 0 []).wellFormed = false ∧
    (Instr.opaqueItem 0x20 0 []).wellFormed = true := by decide
theorem smoke_longOpaque : (Instr.opaqueItem 0x1F 2 [0]).wellFormed = false ∧
    (Instr.opaqueItem 0x10 1 [0]).wellFormed = false ∧
    (Instr.opaqueItem 0x1F 2 [0, 0]).wellFormed = true := by decide
theorem smoke_unknownNotice : (Instr.unknownNotice 0x40000000).wellFormed = false ∧
    (Instr.unknownNotice 0x80000000).wellFormed = false ∧
    (Instr.unknownNotice 0xFFFFFFFF).wellFormed = true := by decide
theorem smoke_unknownOrder : (Instr.unknownOrder 0x12 0 []).wellFormed = false ∧
    (Instr.unknownOrder 0x13 0 []).wellFormed = true := by decide
theorem smoke_orderLength : (Instr.mark 0 (List.replicate 64 0)).wellFormed = false ∧
    (Instr.mark 0 (List.replicate 63 0)).wellFormed = true := by decide
theorem smoke_refused : exec (.glyphRun 0x105 []) State.reset = .refused .illFormed ∧
    exec (.unknownNotice 0x40000000) State.reset = .refused .illFormed := ⟨rfl, rfl⟩

/-! ## Words written out from Chapter 11 -/

theorem decode_frames : decodeItem high [0x01000000] = some (.frameStart 0 high, []) ∧
    decodeItem high [0x02ABCDEF] = some (.frameEnd 0xABCDEF, []) := by decide
/-- x = 100 in 23..12 and y = 200 in 11..0. -/
theorem decode_move : decodeItem high [0x030640C8] = some (.move 100 200, []) := by decide
theorem decode_tags : decodeItem high [0x0604000E] = some (.tagOpen 4 14, []) ∧
    decodeItem high [0x07FFFFFF] = some (.tagClose, []) := by decide
/-- Nine words at the largest count, 32 (R2). -/
theorem decode_glyphRun : (decodeItem high (0x05000120 :: List.replicate 9 0)).map (·.2.length) =
    some 1 := by decide
theorem decode_opaque : decodeItem high [0xFF000001, 5] = some (.opaqueItem 0xFF 1 [], [5]) ∧
    decodeItem high [0x11000001, 5] = some (.opaqueItem 0x11 1 [5], []) := by decide
/-- Code 0x04, tag 0x21, length 1: BUTTON SET. -/
theorem decode_order : decodeItem high [0x10042101, 0x00000302] =
    some (.buttonSet 0x21 [0x302], []) := by decide
theorem decode_notices : decodeNotice high 0x40000063 = .completionNotice 99 high ∧
    decodeNotice high 0x802A000A = .hitNotice 42 10 ∧
    decodeNotice high 0x00000000 = .unknownNotice 0 := by decide

/-! ## Worked examples -/

/-- Chapter 3's first example, #38 to #42, the named entry outstanding. -/
def lagTrail : List Entry :=
  [ { flat 38 .frameStart with start := ⟨2000, 50⟩ },
    { flat 39 .move with stop := ⟨100, 200⟩, length := 206 },
    { flat 40 .stroke with start := ⟨100, 200⟩, stop := ⟨160, 230⟩, length := 60, lit := true },
    { flat 41 .move with start := ⟨160, 230⟩, stop := ⟨400, 230⟩, length := 246 },
    { flat 42 .stroke with start := ⟨400, 230⟩, stop := ⟨400, 300⟩, length := 70, lit := true } ]

/-- One hit of that example: what it comes to, with SNAP 3. -/
def lagCase (lag place e : Nat) : Option (Nat × Point × Bool) :=
  match correlate { PerParam.defaults with lag := lag } (trailOf lagTrail 5) place
      (lagTrail.getD place (flat 0 .move)) e with
  | .seen en p sn => some (en.seq, p, sn)
  | _ => none

theorem hit_snaps_or_dark : lagCase 24 4 10 = none ∧
    lagCase 12 4 10 = some (42, ⟨400, 230⟩, true) ∧
    lagCase 12 4 40 = some (42, ⟨400, 258⟩, false) := by decide
theorem hit_lands : lagCase 70 3 30 = some (40, ⟨120, 210⟩, false) ∧
    lagCase 24 2 500 = some (40, ⟨136, 218⟩, false) ∧
    lagCase 24 2 31 = some (40, ⟨107, 204⟩, false) ∧
    lagCase 0 4 0 = some (42, ⟨400, 230⟩, false) := by decide
/-- Case G is stale, case A dark. -/
theorem hit_stale : correlate { PerParam.defaults with lag := 255 } (trailOf lagTrail 5) 2
      (lagTrail.getD 2 (flat 0 .move)) 5 = .stale ∧
    correlate PerParam.defaults (trailOf lagTrail 5) 4 (lagTrail.getD 4 (flat 0 .move)) 10 =
      .dark := by decide

/-- Chapter 3's second example: a label, then the arms E and N of the cross, with SNAP 8. -/
def crossTrail : List Entry :=
  [ { flat 70 .glyphRun with origin := .list [3, 20] (some 6), start := ⟨960, 790⟩,
                             stop := ⟨992, 790⟩, length := 72, lit := true, glyph := some ⟨1, 4⟩ },
    { flat 71 .move with origin := .cross .e, start := ⟨992, 790⟩, stop := ⟨1002, 800⟩,
                         length := 16 },
    { flat 72 .stroke with origin := .cross .e, start := ⟨1002, 800⟩, stop := ⟨1014, 800⟩,
                           length := 12, lit := true },
    { flat 73 .move with origin := .cross .n, start := ⟨1014, 800⟩, stop := ⟨999, 803⟩,
                         length := 21 },
    { flat 74 .stroke with origin := .cross .n, start := ⟨999, 803⟩, stop := ⟨999, 815⟩,
                           length := 12, lit := true } ]

/-- The frame of that example before its four hits. -/
def crossFrame : State :=
  { inPhase .overlay with
    trail := trailOf crossTrail 5,
    banks := { State.reset.banks with
      params := { PerParam.defaults with snap := 8 },
      layersLive := LayerTable.cleared.set 6 ⟨true, false, 0⟩ } }

/-- Its four hits, a to d. -/
def crossHits : State := hitEffect 74 30 (hitEffect 74 5 (hitEffect 72 4 (hitEffect 72 20 crossFrame)))

theorem hit_counters : crossHits.corr.counters =
    { Counters.zero with notices := 4, sightings := 3, list := 2, cross := 1, snapped := 2,
                         dark := 1, merged := 1 } ∧
    crossHits.corr.arms.e = ⟨1, some ⟨1014, 1014⟩⟩ ∧
    crossHits.corr.firstSighting = some ⟨988, 796⟩ ∧ crossHits.corr.arrivals = 2 := by
  decide
theorem hit_record : crossHits.hitSet = [⟨70, [3, 20], 6, ⟨988, 796⟩, true, 2, 1⟩] := by
  decide

/-- Chapter 2's example: the Trail at the wrap of the numbers. -/
theorem trail_wraps :
    let t := trailOf ((List.range 48).map fun k => flat ((k + 231) % 256) .opaqueItem) 13
    t.locate 5 = some 30 ∧ t.locate 230 = none ∧ t.nextSeq = 23 := by decide
/-- Chapter 2's short frame: #61, #63, #64. -/
theorem item_lengths :
    (moveItem PerParam.defaults ⟨0, 0⟩ ⟨1000, 800⟩ []).length = 1006 ∧
    (strokeItem PerParam.defaults ⟨1030, 860⟩ ⟨1030, 860⟩ 7 []).length = 4 ∧
    glyphItem PerParam.defaults ⟨1030, 860⟩ 2 3 [] =
      ⟨.glyphRun, ⟨1078, 860⟩, 108, true, some ⟨2, 3⟩, []⟩ := by decide
/-- A frame that ends with eight records open and an overflow depth of 1 adds 9 tag faults (R25). -/
theorem tags_left_open :
    (after (exec (.frameEnd 0) { inPhase .drawing with
      tags := ⟨List.replicate 8 ⟨3, 1⟩, 1⟩ })).map (·.corr.counters.tagFaults) = some 9 := by
  decide

/-- Chapter 1's worked sequence: an unclosed close opens the next frame, its FRAME START #2. -/
theorem unclosed_reopens : (after (exec (.completionNotice 1 high) unclosing)).map
      (fun t => (t.decoder.phase, t.decoder.frame, t.trail.outstanding, t.lane.queue)) =
    some (.drawing, 2, 1, [.faultUnclosed 1]) := by decide
/-- Its LINK fault: reported once, then ignored. -/
theorem link_fault_once :
    ((after (exec (.completionNotice 99 high) closing)).bind fun t =>
      after (exec (.completionNotice 250 high) t)).map (fun t =>
        (t.lane.queue, t.trail.outstanding, t.decoder.linkFault)) =
    some ([.faultLink 1 (.notOutstanding 99)], 2, true) := by decide

/-- Chapter 4's bilge frame: the seven records. -/
def bilge : List HitRecord :=
  [ ⟨130, [3, 14, 2], 4, ⟨1512, 631⟩, false, 2, 1⟩, ⟨131, [3, 40, 1], 7, ⟨1490, 604⟩, false, 1, 2⟩,
    ⟨152, [3, 14, 2, 5], 9, ⟨1532, 660⟩, true, 1, 4⟩, ⟨140, [3, 60, 2], 4, ⟨1502, 618⟩, false, 3, 5⟩,
    ⟨133, [3, 80, 1], 7, ⟨1484, 636⟩, false, 1, 6⟩, ⟨155, [3, 15, 1, 2], 9, ⟨1580, 700⟩, false, 1, 7⟩,
    ⟨160, [3, 15, 3], 4, ⟨1488, 629⟩, false, 1, 9⟩ ]

/-- Its layer table. -/
def bilgeLayers : LayerTable :=
  ((LayerTable.cleared.set 4 ⟨true, false, 3⟩).set 7 ⟨true, false, 3⟩).set 9 ⟨true, true, 8⟩

/-- That frame at its close, in the first frame of a window of three. -/
def bilgeFrame : State :=
  { pressed 1 3 (penned .tracking closing) with
    hitSet := bilge, tracking := { State.reset.tracking with centre := ⟨1500, 620⟩ },
    banks := { State.reset.banks with layersLive := bilgeLayers } }

theorem close_picks : (after (exec (.completionNotice 1 high) bilgeFrame)).map
      (fun t => (t.lane.queue, t.resolver.press, t.resolver.dragRequest)) =
    some ([.pick 1 (some ⟨⟨1532, 660⟩, 9, [3, 14, 2, 5], 1, true, true⟩)], .closed, true) := by
  decide
/-- With RADIUS 32 the winner fails the gate, and the window stays open. -/
theorem close_gates : (after (exec (.completionNotice 1 high) { bilgeFrame with
      banks := { bilgeFrame.banks with params := { PerParam.defaults with radius := 32 } } })).map
      (fun t => (t.lane.queue, t.resolver.press)) = some ([], .opened 1 3) := by decide

/-- Chapter 6's centre update: E 1004 and 1012, N 806 and 810; then STEP LIMIT 4, and a W hit at 990. -/
theorem arm_update :
    let n : Accumulator := ⟨2, some ⟨806, 810⟩⟩
    let e : Accumulator := ⟨3, some ⟨1004, 1012⟩⟩
    let z := Accumulator.zero
    armUpdate PerParam.defaults ⟨1000, 800⟩ ⟨e, n, z, z⟩ = ⟨1008, 808⟩ ∧
    armUpdate { PerParam.defaults with stepLimit := 4 } ⟨1000, 800⟩ ⟨e, n, z, z⟩ = ⟨1004, 804⟩ ∧
    armUpdate PerParam.defaults ⟨1000, 800⟩ ⟨e, n, ⟨1, some ⟨990, 990⟩⟩, z⟩ = ⟨1001, 808⟩ := by decide

/-- Chapter 7's truncations: after #227, and before #210. -/
theorem sync_counts : dropped (menued State.reset).banks.menuLive (.button 2 body 6) = 13 ∧
    dropped (menued State.reset).banks.menuLive (.button 0 fairStation 2) = 31 ∧
    dropped (menued State.reset).banks.menuLive (.cross 0) = 41 := by decide
/-- #213 and #214 of that example: the label's MOVE and GLYPH RUN. -/
theorem label_items : (buttonItem PerParam.defaults ⟨100, 40⟩ fairStation 5).length = 60 ∧
    (buttonItem PerParam.defaults ⟨104, 94⟩ fairStation 6).stop = ⟨200, 94⟩ ∧
    (buttonItem PerParam.defaults ⟨104, 94⟩ fairStation 6).length = 216 ∧
    buttonIntensity body = 7 ∧ buttonIntensity bare = 2 := by decide
/-- BUTTON SET on the button in emission, and LATCH of another of its group, are COLLIDED. -/
theorem button_set_collides :
    collides (menued State.reset).banks.menuLive (.button 2 body 3) 2 body .unlatch = true ∧
    collides (menued State.reset).banks.menuLive (.button 2 body 5) 3 plan .latch = true ∧
    collides (menued State.reset).banks.menuLive (.button 2 body 5) 3 plan .unlatch = false := by
  decide

/-- R178: a layer entry contributes its lower half, an absent place nothing. -/
theorem checksum_parts : halfSum [layerWord ⟨true, true, 8⟩] = 0xC008 ∧
    halfSum (placeWords none) = 0 := by decide

/-- Chapter 9's orders 1, 2 and 6: ADJUSTED LAG 255, REFUSED RANGE, the STATUS with its arming spent. -/
theorem order_replies :
    (after (exec (.setParameter 1 [0x0001012C]) (inPhase .drawing))).map (·.lane.queue) =
      some [.reply 1 1 1 true .adjusted (.param .lag 255)] ∧
    (after (exec (.setParameter 2 [0x000D0000]) (inPhase .drawing))).map (·.lane.queue) =
      some [.reply 2 1 1 true (.refused .range) .absent] := by decide
theorem status_spends_arming :
    (after (exec (.status 6 []) { queued 7 (inPhase .drawing) with
      orders := { armed := true, inHand := none } })).map (fun t => (t.orders.armed,
        (t.lane.queue.getLast?.map reportWords))) =
    some (false, some [0x01030001, 0x060F8000, 0x80000100, 0x010F0001]) := by decide
theorem describe_words : payloadWords .describe = [0x5A373430, 0x01000006, 0x01000040, 0x02000018,
    0x03000030, 0x04000010, 0x05000020, 0x06000010] := by decide
/-- Chapter 9's last reset: the second completion ends the drain, and the REPLY stands alone. -/
theorem drain_ends : (after (exec (.completionNotice 0 high) { queued 10 (inPhase .drawing) with
      orders := { armed := false, inHand := some 9 } })).map
      (fun t => (t.lane.queue, t.decoder.phase, t.decoder.frame, t.trail.nextSeq)) =
    some ([.reply 9 0x12 0 false .accepted .absent], .idle, 0, 0) := by decide

/-- Chapter 10's held lane: at the freeing the MARK is taken and the lost count is kept; at the next
freeing OVERFLOW (lost 3) takes the place. -/
theorem freeing_takes_order :
    let s : State := { queued 32 (inPhase .closing) with portLine := [.mark 12 [5]] }
    (after (exec (.reportStart high) { s with lane := { s.lane with lost := 3 } })).map
      (fun t => (t.lane.queue.length, t.lane.queue.getLast?, t.lane.lost, t.portLine)) =
    some (32, some (.reply 12 0x0E 1 true .accepted (.mark 5)), 3, []) := by decide
theorem freeing_reports_overflow :
    let s : State := queued 32 (inPhase .closing)
    (after (exec (.reportStart high) { s with lane := { s.lane with lost := 3 } })).map
      (fun t => (t.lane.queue.length, t.lane.queue.getLast?, t.lane.lost)) =
    some (32, some (.overflow 1 3), 0) := by decide
/-- A slot owed a turn goes before the queue (R172). -/
theorem owed_slot_first :
    let s : State := queued 1 State.reset
    (after (exec (.reportStart high) { s with lane := { s.lane with
      trackSlot := some ⟨701, ⟨1484, 612⟩, 1⟩, owedTrack := true, owedDrag := true } })).map
      (fun t => (t.lane.lane, t.lane.trackSlot, t.lane.owedTrack, t.lane.queue.length)) =
    some (.sending (.trackPosition 701 ⟨1484, 612⟩ 1), none, false, 1) := by decide

/-- Chapter 5's frames 1 and 2: the first OUT changes nothing, the second makes the pen LIFTED. -/
theorem pen_debounced :
    let o := State.reset.pen.openWork ⟨true, true⟩ false
    let q := o.pen.openWork ⟨true, true⟩ false
    o.pen.state = .stowed ∧ q.pen.state = .lifted ∧
    q.reports 2 ⟨0, 0⟩ = [.penEvent 2 .lifted .outside .up .lifted] := by decide
/-- Its frame 13: STOWED, then TIP IN HOLDER. -/
theorem pen_stowed_and_tip :
    let p : Pen := { penned .lifted State.reset with }.pen
    let o := ({ p with rawHolder := .inside, rawTip := .down } : Pen).openWork ⟨false, false⟩ false
    o.reports 13 ⟨0, 0⟩ = [.penEvent 13 .stowed .inside .down .stowed,
      .penEvent 13 .tipInHolder .inside .down .stowed] := by decide

/-! ## States that meet the hypotheses of the statements

Statement by statement, in their order; one clause a line, at a boundary value where there is one. -/

theorem witness_StepRunsFrontCommand : State.reset.pending = [] := by decide
theorem witness_StreamItemRoundTrip : (Instr.mark 255 (List.replicate 63 0)).isStreamItem = true ∧
    (Instr.mark 255 (List.replicate 63 0)).wellFormed = true ∧
    (Instr.opaqueItem 0x1F 31 (List.replicate 31 0)).isStreamItem = true ∧
    (Instr.opaqueItem 0x1F 31 (List.replicate 31 0)).wellFormed = true := by decide
theorem witness_ReportHeaderWord :
    reportFrame (.pick 65535 (some ⟨⟨4200, 4095⟩, 63, List.replicate 8 65535, 255, true, true⟩)) ≤
      65535 ∧ (List.replicate 8 65535).length ≤ 8 ∧ reportFrame (.hover 0 []) ≤ 65535 := by decide
/-- A point word: x = 5000 in 28..16, past the screen, and y = 4095 in 11..0. -/
theorem test_pointWord : pointWord ⟨5000, 4095⟩ = 0x13880FFF := by decide
theorem witness_StallCauses : (Instr.move 0 0).isStreamItem = true ∧
    (Instr.status 0 []).isStreamItem = true := by decide
theorem witness_HeldItemWaits_low : (Instr.move 0 0).isStreamItem = true ∧
    (Instr.move 0 0).wellFormed = true ∧
    { State.reset with resetLow := true }.resetLow = true := by decide
theorem witness_HeldItemWaits_cause : let s := loaded 16 State.reset
    s.resetLow = false ∧ s.portLine = [] ∧ stallCauses (.move 0 0) s ≠ [] := by decide
theorem witness_HeldItemWaits_behind : let s : State := { closing with portLine := [.tagClose] }
    s.resetLow = false ∧ stallCauses .tagClose s ≠ [] ∧ (Instr.status 0 []).wellFormed = true := by
  decide

/-! Items -/

theorem witness_MoveIssued : (loaded 15 State.reset).takesAtOnce (.move 4095 0) ∧
    (loaded 15 (inPhase .drawing)).takesAtOnce (.move 0 4095) := by decide
theorem witness_StrokeIssued : (loaded 15 State.reset).takesAtOnce (.stroke 7 0x0FFF0FFF) ∧
    (inPhase .drawing).takesAtOnce (.stroke 0 0) := by decide
theorem witness_GlyphRunIssued : let codes : List Word := List.replicate 8 0
    (Instr.glyphRun 0x420 codes).wellFormed = true ∧
    (inPhase .drawing).takesAtOnce (.glyphRun 0x420 codes) ∧
    (Instr.glyphRun 0x500 []).wellFormed = true ∧
    (inPhase .drawing).takesAtOnce (.glyphRun 0x500 []) := by decide
theorem witness_OpaqueIssued : (Instr.opaqueItem 0x11 0 []).wellFormed = true ∧
    (loaded 15 State.reset).takesAtOnce (.opaqueItem 0x11 0 []) := by decide
theorem witness_TagOpenTaken : let full : TagStack := ⟨List.replicate 8 ⟨3, 1⟩, 255⟩
    State.reset.takesAtOnce (.tagOpen 63 1) ∧ (inPhase .drawing).takesAtOnce (.tagOpen 64 1) ∧
    { inPhase .drawing with tags := full }.takesAtOnce (.tagOpen 63 65535) := by decide
theorem witness_TagCloseTaken : State.reset.takesAtOnce .tagClose ∧
    (loaded 16 (inPhase .drawing)).takesAtOnce .tagClose := by decide

/-! The open -/

/-- The state a FRAME START opens a frame from, at the wrap of the frame number. -/
def wrapping : State :=
  { loaded 15 State.reset with decoder := { State.reset.decoder with frame := 65535 } }
theorem witness_FrameStartOpens : wrapping.takesAtOnce (.frameStart 0 high) ∧
    wrapping.decoder.phase = .idle := by decide

/-- A state with a swap of both tables scheduled and a parameter pending. -/
def pendingState : State :=
  { State.reset with
    loads := ⟨.swapPending, .swapPending⟩,
    banks := { State.reset.banks with
      pendingParams := { PerParam.all none with arm := some 32 },
      pendingLayers := (Vector.replicate 64 none).set 63 (some ⟨true, true, 15⟩) } }
theorem witness_OpenAppliesPending : pendingState.takesAtOnce (.frameStart 0 high) ∧
    pendingState.decoder.phase = .idle ∧ ∃ t, exec (.frameStart 0 high) pendingState = .next t :=
  ⟨by decide, by decide, _, rfl⟩

/-- A pen in TRACKING with its window open, whose tip is about to be read UP a second time. -/
def releasing : State :=
  let s := pressed 1 8 (dragged false false State.reset)
  { s with pen := { s.pen with tip := .down, rawTip := .up } }
theorem witness_OpenMovesPenAndPress : releasing.takesAtOnce (.frameStart 0 high) ∧
    releasing.decoder.phase = .idle ∧ ∃ t, exec (.frameStart 0 high) releasing = .next t :=
  ⟨by decide, by decide, _, rfl⟩

/-- A pen in TRACKING with a placement pending at the corner of the screen. -/
def placing : State :=
  { penned .tracking State.reset with
    tracking := { State.reset.tracking with placement := some ⟨0, 4095⟩ } }
theorem witness_OpenMovesCentreAndDrag : placing.takesAtOnce (.frameStart 0 high) ∧
    placing.decoder.phase = .idle ∧ ∃ t, exec (.frameStart 0 high) placing = .next t :=
  ⟨by decide, by decide, _, rfl⟩
/-- Room for one more report, and one report made: PEN EVENT LIFTED. -/
theorem witness_OpenQueuesReports :
    let s : State := queued 31 { State.reset with
      pen := { State.reset.pen with rawHolder := .outside } }
    s.takesAtOnce (.frameStart 0 high) ∧ s.decoder.phase = .idle ∧
    (∃ t, exec (.frameStart 0 high) s = .next t) ∧ s.lane.queue.length + 1 ≤ 32 :=
  ⟨by decide, by decide, ⟨_, rfl⟩, by decide⟩

/-! The end of a frame -/

theorem witness_FrameStartEndsUnclosed :
    (loaded 15 (inPhase .drawing)).takesAtOnce (.frameStart 0 high) ∧
    (loaded 16 (inPhase .drawing)).takesAtOnce (.frameStart 0 high) ∧
    (loaded 16 (inPhase .drawing)).decoder.phase = .drawing := by decide
theorem witness_FrameEndTaken_idle : (loaded 15 State.reset).takesAtOnce (.frameEnd 0) ∧
    (loaded 15 State.reset).decoder.phase = .idle := by decide
theorem witness_FrameEndTaken_empty :
    (loaded 16 (inPhase .drawing)).takesAtOnce (.frameEnd 0) ∧
    (inPhase .drawing).overlay.permission = false := by decide
/-- Permission granted, with the pen SEEN, and STOWED with and without buttons. -/
theorem witness_FrameEndTaken_emission :
    let granted := fun s : State => { s with overlay := { s.overlay with permission := true } }
    let s := granted (penned .seen (inPhase .drawing))
    let u := granted (menued (inPhase .drawing))
    (s.takesAtOnce (.frameEnd 0) ∧ s.overlay.permission = true ∧ s.pen.state = .seen) ∧
    (u.takesAtOnce (.frameEnd 0) ∧ u.pen.state = .stowed ∧
      placeAt u.banks.menuLive 0 = some fairStation) ∧
    ∀ i, i < 24 → placeAt (granted (inPhase .drawing)).banks.menuLive i = none := by decide
theorem witness_FrameEndIssued_list : let s := emitting .idle (loaded 15 (inPhase .overlay))
    s.decoder.phase = .overlay ∧ s.decoder.inHand = some (.frameEnd 0) ∧
    s.overlay.emission = .idle := by decide
theorem witness_FrameEndIssued_generated : (inPhase .unclosing).decoder.phase = .unclosing ∧
    closing.decoder.phase ≠ .overlay ∧ closing.decoder.phase ≠ .unclosing := by decide

/-! The overlay -/

theorem witness_CrossItemIssued : (emitting (.cross 6) (loaded 15 State.reset)).overlay.emission =
    .cross 6 ∧ (emitting (.cross 0) (inPhase .overlay)).overlay.emission = .cross 0 := by decide
theorem witness_ButtonItemIssued_inner :
    let s := emitting (.button 2 body 5) (loaded 15 (inPhase .overlay))
    s.overlay.emission = .button 2 body 5 ∧ 5 + 1 < (if body.label = [] then 5 else 7) ∧
    s.trail.outstanding < 16 := by decide
theorem witness_ButtonItemIssued_cross :
    let s := emitting (.cross 7) (loaded 15 (menued (inPhase .overlay)))
    s.trail.outstanding < 16 ∧ s.overlay.emission = .cross 7 ∧ s.decoder.phase = .overlay ∧
    s.decoder.inHand = some (.frameEnd 0) ∧ placeAt s.banks.menuLive 0 = some fairStation := by
  decide
theorem witness_ButtonItemIssued_last :
    let s := emitting (.button 5 bare 4) (loaded 14 (menued (inPhase .overlay)))
    s.trail.outstanding < 16 ∧ s.overlay.emission = .button 5 bare (if bare.label = [] then 4 else 6) ∧
    s.decoder.phase = .overlay ∧ s.decoder.inHand = some (.frameEnd 0) ∧
    ∀ j, j < 24 → 6 ≤ j → placeAt s.banks.menuLive j = none := by decide
theorem witness_ButtonItemIssued_label :
    let s := emitting (.button 2 body 6) (loaded 15 (menued (inPhase .overlay)))
    s.trail.outstanding < 16 ∧ s.overlay.emission = .button 2 body (if body.label = [] then 4 else 6) ∧
    s.decoder.phase = .overlay ∧ s.decoder.inHand = some (.frameEnd 0) ∧ body.label ≠ [] ∧
    body.label.length ≤ 12 := by decide
theorem witness_SyncTruncates_issue :
    let s := emitting (.button 2 body 6) (loaded 15 (menued (inPhase .overlay)))
    s.resetLow = false ∧ s.overlay.emission ≠ .idle ∧ s.decoder.phase = .overlay ∧
    s.decoder.inHand = some (.frameEnd 0) ∧ s.trail.outstanding < 16 := by decide
theorem witness_SyncTruncates_full : let s := emitting (.cross 0) (loaded 16 (inPhase .overlay))
    s.resetLow = false ∧ s.overlay.emission ≠ .idle ∧ 16 ≤ s.trail.outstanding ∧
    State.reset.overlay.emission = .idle := by decide

/-! Completions -/

theorem witness_CompletionRetires : (inPhase .drawing).completesTo 0 0 ∧
    (inPhase .drawing).coversFrameEnd 0 = false := by decide
theorem witness_CompletionRetires_held : let s := loaded 16 (inPhase .drawing)
    let h : State := { s with portLine := [.move 1 2] }
    { h with portLine := [] }.completesTo 0 0 ∧ h.coversFrameEnd 0 = false ∧
    { h with pins := high, trail := h.trail.retired 0, portLine := [] }.takesAtOnce (.move 1 2) := by
  decide
theorem witness_CompletionRetires_heldStart : let s := loaded 16 State.reset
    let h : State := { s with portLine := [.frameStart 0 high] }
    { h with portLine := [] }.completesTo 15 15 ∧ h.coversFrameEnd 15 = false ∧
    { h with pins := high, trail := h.trail.retired 15, portLine := [] }.takesAtOnce
      (.frameStart 0 high) := by decide
/-- A FRAME START held in CLOSING is taken at the close; a MOVE held behind another waits on at a full
window, which a notice that names no entry does not open. -/
theorem witness_CompletionRetires_behind :
    (∃ u, exec (.completionNotice 1 high) { closing with portLine := [] } = .next u ∧
      u.takesAtOnce (.frameStart 0 high)) ∧
    ∃ u, exec (.completionNotice 99 high)
        { loaded 16 (inPhase .drawing) with portLine := [.move 3 4] } = .next u ∧
      ¬u.takesAtOnce (.move 1 2) :=
  ⟨⟨_, rfl, by decide⟩, _, rfl, by decide⟩
/-- R13: the FRAME START held in CLOSING opens frame 2 at the close of frame 1. -/
theorem test_close_takes_held_start : ((after (exec (.completionNotice 1 high)
      { closing with portLine := [.frameStart 0 high] })).map fun t =>
    (t.decoder.phase, t.decoder.frame, t.portLine)) = some (.drawing, 2, []) := by decide
/-- A lawful Trail at the wrap of the numbers. -/
theorem witness_NumbersNameEntries :
    let t := trailOf [{ flat 255 .opaqueItem with completed := true }, flat 0 .move] 1
    t.lawful = true ∧ t.named 0 = some (1, flat 0 .move) ∧ t.named 1 = none := by decide
theorem witness_NormalClose : closing.completesTo 1 1 ∧ closing.coversFrameEnd 1 = true ∧
    closing.decoder.phase = .closing ∧ ∃ t, exec (.completionNotice 1 high) closing = .next t :=
  ⟨by decide, by decide, by decide, _, rfl⟩
theorem witness_NormalCloseJudges_held : closing.completesTo 1 1 ∧
    closing.coversFrameEnd 1 = true ∧ closing.trail.outstanding ≤ 16 := by decide
/-- A frame with menu counts that tie at 2 and 3, in the last frame of its window. -/
def menuFrame : State :=
  { pressed 3 3 (menued closing) with
    corr := { Correlator.cleared with menu := ((Vector.replicate 24 0).set 2 5).set 3 5 } }
theorem witness_NormalCloseJudges_menu : menuFrame.completesTo 1 1 ∧
    menuFrame.coversFrameEnd 1 = true ∧ menuFrame.resolver.press = .opened 3 3 ∧
    0 < menuCount menuFrame.corr 2 ∧
    (∀ i, i < 24 → menuCount menuFrame.corr i ≤ menuCount menuFrame.corr 2) ∧
    (∀ i, i < 2 → menuCount menuFrame.corr i < menuCount menuFrame.corr 2) ∧
    placeAt menuFrame.banks.menuLive 2 = some body := by decide
/-- The winner lies exactly at RADIUS from the centre. -/
theorem witness_NormalCloseJudges_pick : bilgeFrame.completesTo 1 1 ∧
    bilgeFrame.coversFrameEnd 1 = true ∧ bilgeFrame.resolver.press = .opened 1 3 ∧
    (∀ j, j < 24 → menuCount bilgeFrame.corr j = 0) ∧
    (bilgeFrame.resolutionRank.winner bilgeFrame.hitSet).map (·.seq) = some 152 ∧
    bilgeFrame.banks.modes.pickOnPress = true ∧ bilgeFrame.tracking.drag = none ∧
    chebyshev ⟨1532, 660⟩ bilgeFrame.tracking.centre ≤ bilgeFrame.banks.params.radius := by decide
theorem witness_NormalCloseJudges_miss : let s := pressed 8 8 closing
    s.completesTo 1 1 ∧ s.coversFrameEnd 1 = true ∧ s.resolver.press = .opened 8 8 ∧
    (∀ j, j < 24 → menuCount s.corr j = 0) ∧ s.resolutionRank.winner s.hitSet = none ∧
    (queued 27 s).lane.queue.length + 5 ≤ 32 := by decide
theorem witness_NormalCloseJudges_hover :
    let s : State := { bilgeFrame with
      banks := { bilgeFrame.banks with modes := { PerMode.defaults with hover := true } } }
    s.completesTo 1 1 ∧ s.banks.modes.hover = true ∧ s.pen.state = .tracking ∧
    s.tracking.drag = none ∧ closing.banks.modes.hover = false := by decide
/-- A drag at the last frame before its track is lost. -/
def lossy : State :=
  { dragged false false closing with
    pen := { (dragged false false closing).pen with loss := 3 } }
/-- A sighting for a LIFTED and a SEEN pen, cross hits for a TRACKING one, and a loss. -/
theorem witness_NormalCloseMoves :
    let seen := fun s : State =>
      { s with corr := { s.corr with firstSighting := some ⟨4200, 0⟩ } }
    let arms := fun s : State =>
      { s with corr := { s.corr with arms := { s.corr.arms with e := ⟨1, some ⟨2060, 2060⟩⟩ } } }
    ((seen (penned .lifted closing)).completesTo 1 1 ∧
      (seen (penned .lifted closing)).corr.firstSighting ≠ none) ∧
    ((arms (seen (penned .seen closing))).completesTo 1 1 ∧
      0 < (arms (seen (penned .seen closing))).corr.arms.e.count) ∧
    (dragged true false closing).completesTo 1 1 ∧
    lossy.completesTo 1 1 ∧ lossy.banks.params.lossFrames ≤ lossy.pen.loss + 1 := by decide
theorem witness_UnclosedCloseReopens : let s := pressed 1 1 unclosing
    s.completesTo 1 1 ∧ s.coversFrameEnd 1 = true ∧ s.decoder.phase = .unclosing ∧
    s.decoder.inHand = some (.frameStart 0) ∧ s.trail.outstanding ≤ 16 := by decide
theorem witness_LinkFaultRaised : closing.resetLow = false ∧ closing.portLine = [] ∧
    closing.trail.named 2 = none ∧ bits (0xC0000000 : Word) 31 30 = 3 ∧
    { State.reset with resetLow := true }.resetLow = true := by decide

/-! Hits -/

/-- Chapter 3's first example as a state, LAG and SNAP as given. -/
def lagFrame (lag snap : Nat) : State :=
  { inPhase .drawing with
    trail := trailOf lagTrail 5,
    banks := { State.reset.banks with
      params := { PerParam.defaults with lag := lag, snap := snap } } }
theorem witness_HitDiscarded : State.reset.resetLow = false ∧ State.reset.decoder.phase = .idle ∧
    (lagFrame 24 3).decoder.phase ≠ .idle ∧ (lagFrame 24 3).trail.named 43 = none := by decide
theorem witness_HitDiscarded_named :
    let un : Entry := { flat 0 .move with frame := none }
    let old : Entry := { flat 0 .move with completed := true }
    (trailOf [un] 1).named 0 = some (0, un) ∧ (trailOf [old] 0).named 0 = some (0, old) := by decide
theorem witness_HitStale : let s := lagFrame 255 3
    s.trail.named 40 = some (2, lagTrail.getD 2 (flat 0 .move)) ∧
    landing s.banks.params.lag 5 (lagTrail.getD 2 (flat 0 .move)) ((s.trail.entries.take 2).reverse) =
      none := by decide
theorem witness_HitDark : let s := lagFrame 24 13
    ∃ a, landing s.banks.params.lag 10 (lagTrail.getD 4 (flat 0 .move))
        ((s.trail.entries.take 4).reverse) = some a ∧ a.entry.lit = false ∧
      a.candidate.map (·.distance) = some 14 ∧ s.banks.params.snap < 14 :=
  ⟨_, rfl, by decide, by decide, by decide⟩
/-- A hit that lands in a lit entry, and one that snaps at exactly SNAP. -/
theorem witness_HitAttributed : let s := lagFrame 24 14
    (∃ a, landing s.banks.params.lag 31 (lagTrail.getD 2 (flat 0 .move))
        ((s.trail.entries.take 2).reverse) = some a ∧ a.entry.lit = true) ∧
    ∃ a, landing s.banks.params.lag 10 (lagTrail.getD 4 (flat 0 .move))
        ((s.trail.entries.take 4).reverse) = some a ∧ a.entry.lit = false ∧
      a.candidate.map (·.distance) = some 14 ∧ 14 ≤ s.banks.params.snap :=
  ⟨⟨_, rfl, by decide⟩, _, rfl, by decide, by decide, by decide⟩
/-- A list hit that is kept, one on a button, one on an arm. -/
theorem witness_HitAttributed_origins :
    (∃ l, (flat 0 .stroke).origin = .list [] l) ∧
    (crossTrail.getD 2 (flat 0 .move)).origin = .cross .e ∧
    (crossTrail.getD 0 (flat 0 .move)).origin = .list [3, 20] (some 6) ∧
    (layerEntry crossFrame.banks.layersLive 6).pickable = true ∧
    crossFrame.banks.menuLive.band = none ∧
    ({ flat 0 .stroke with origin := .menu 23 255 true } : Entry).origin = .menu 23 255 true :=
  ⟨⟨_, rfl⟩, by decide, by decide, by decide, by decide, by decide⟩
theorem witness_StrokePointOnLine :
    let e := lagTrail.getD 2 (flat 0 .move)
    let g := crossTrail.getD 0 (flat 0 .move)
    let d : Entry := { flat 0 .stroke with start := ⟨9, 9⟩, stop := ⟨9, 9⟩, length := 15, lit := true }
    (d.glyph = none ∧ d.start = d.stop) ∧
    (e.glyph = none ∧ e.start ≠ e.stop ∧ 60 ≤ chebyshev e.start e.stop) ∧
    g.glyph = some ⟨1, 4⟩ ∧ g.length = 4 * 18 ∧ 72 ≤ g.length := by decide
theorem witness_DarkLandingDecided :
    let l : Landing := ⟨lagTrail.getD 3 (flat 0 .move), 232,
      [lagTrail.getD 2 (flat 0 .move)], [lagTrail.getD 4 (flat 0 .move)]⟩
    l.entry.lit = false ∧ (backward l.offset l.entry l.older).map (·.distance) = some 232 ∧
    (forward (l.entry.length - l.offset) l.newer).map (·.distance) = some 14 := by decide
/-- Sixteen records with the numbers 0 to 15. -/
def sixteen : List HitRecord := (List.range 16).map fun k => ⟨k, [3], 4, ⟨k, 0⟩, false, 1, k + 1⟩
theorem witness_HandOver : (∃ r ∈ sixteen, r.seq = 15) ∧ (¬∃ r ∈ sixteen, r.seq = 16) ∧
    16 ≤ sixteen.length ∧ (sixteen.map fun r => r.seq).Nodup ∧ bilge.length < 16 ∧
    ¬∃ r ∈ bilge, r.seq = 16 := by decide
theorem witness_WinnerRanksAboveAll : bilgeFrame.resolutionRank.ref = some ⟨1500, 620⟩ ∧
    bilge ≠ [] ∧ (bilge.map fun x => x.seq).Nodup ∧ (130 : Nat) ≠ 131 := by decide

/-! Orders -/

/-- An order is taken at once from a state with one place free in the queue. -/
abbrev roomy : State := queued 31 (inPhase .drawing)
theorem witness_SetParameter : roomy.takesAtOnce (.setParameter 0 [0x00010100]) ∧
    paramOf 12 = some .pressWindow ∧ paramOf 13 = none := by decide
theorem witness_SetModes : roomy.takesAtOnce (.setModes 0 [0x40]) := by decide
/-- Layers 63 and 64, priorities 15 and 16, and the swap pending. -/
theorem witness_LayerSet : roomy.takesAtOnce (.layerSet 0 [0x3F00000F]) ∧
    (63 < bits (0x40000000 : Word) 31 24 ∧ roomy.takesAtOnce (.layerSet 0 [0x40000000])) ∧
    (15 < bits (0x3F000010 : Word) 7 0 ∧ roomy.takesAtOnce (.layerSet 0 [0x3F000010])) ∧
    (pendingState.takesAtOnce (.layerSet 0 [0]) ∧ pendingState.loads.layers = .swapPending) := by
  decide
theorem witness_ButtonSet_refused : (pendingState.takesAtOnce (.buttonSet 0 [0]) ∧
      pendingState.loads.menu = .swapPending) ∧
    ((menued roomy).takesAtOnce (.buttonSet 0 [0x1800]) ∧
      placeAt (menued roomy).banks.menuLive 24 = none) ∧
    ((menued roomy).takesAtOnce (.buttonSet 0 [0x0002]) ∧
      placeAt (menued roomy).banks.menuLive 0 = some fairStation ∧
      fairStation.kind = .momentary) := by decide
/-- PLAN latched while BODY is in emission, and while nothing is. -/
theorem witness_ButtonSet_latch :
    let s := emitting (.button 2 body 3) (menued (inPhase .overlay))
    (s.takesAtOnce (.buttonSet 0 [0x0302]) ∧ s.loads.menu ≠ .swapPending ∧
      placeAt s.banks.menuLive 3 = some plan ∧ plan.kind ≠ .momentary ∧
      s.overlay.emission = .button 2 body 3 ∧ placeAt s.banks.menuLive 2 = some body ∧
      body.group = plan.group ∧ body.latched = true) ∧
    (menued roomy).takesAtOnce (.buttonSet 0 [0x0302]) := by decide
/-- Both tables, at the largest counts; a third table; counts one too large; a band to the right edge. -/
theorem witness_LoadOpen : roomy.takesAtOnce (.loadOpen 0 [0x01400000]) ∧
    roomy.takesAtOnce (.loadOpen 0 [0x02180000]) ∧ roomy.takesAtOnce (.loadOpen 0 [0x03000000]) ∧
    roomy.takesAtOnce (.loadOpen 0 [0x01410000]) ∧
    roomy.takesAtOnce (.loadOpen 0 [0x02000000, 0x00000000, 0x0FFF0FFF]) ∧
    pendingState.takesAtOnce (.loadOpen 0 [0x01400000]) ∧ roomy.loads.layers = .none := by decide
/-- Sessions of both tables with two entries, complete. -/
def sessions : State := { roomy with loads := ⟨.opened 2 0 [1, 0], .opened 2 0 [0, 1]⟩ }
/-- A layer segment of two entries, a menu segment of one absent place, and refused ones. -/
theorem witness_LoadSegment :
    sessions.takesAtOnce (.loadSegment 0 [0x01000002, 0xC00F, 0]) ∧
    (Instr.loadSegment 0 [0x01000002, 0xC00F, 0]).wellFormed = true ∧
    sessions.takesAtOnce (.loadSegment 0 [0x02010001, 0, 0, 0, 0, 0, 0]) ∧
    placeOf [0, 0, 0, 0, 0, 0] ≠ none ∧
    sessions.takesAtOnce (.loadSegment 0 [0x01020001, 0]) ∧
    sessions.takesAtOnce (.loadSegment 0 [0x01000000]) ∧
    sessions.takesAtOnce (.loadSegment 0 [0x01010001, 0x10]) ∧
    roomy.takesAtOnce (.loadSegment 0 [0x03000001, 0]) := by decide
theorem witness_LoadSegment_button : fairStation.valid = true ∧ fairStation.code < 256 ∧
    fairStation.group < 8 ∧ fairStation.label.length ≤ 12 ∧ (15 : Nat) ≤ 15 := by decide
/-- Six words of a button (code 22, TOGGLE, 16 by 1024 at 3071, 3071), and the same with each fault of
R143.5: code 0, kind 3, RADIO in group 0, TOGGLE in group 1, MOMENTARY latched, w 15 and 1025, h 15 and
1025, x and y one too far, label length 13; and with bit 31 clear. -/
theorem test_placeOf_rules :
    let place := fun w0 w1 w2 : Word => placeOf [w0, w1, w2, 0x41420000, 0, 0]
    (place 0x80162010 0x0BFF0BFF 0x04000400).map (·.isSome) = some true ∧
    place 0x80002010 0x0BFF0BFF 0x04000400 = none ∧ place 0x80162030 0x0BFF0BFF 0x04000400 = none ∧
    place 0x80162020 0x0BFF0BFF 0x04000400 = none ∧ place 0x80162110 0x0BFF0BFF 0x04000400 = none ∧
    place 0x80162001 0x0BFF0BFF 0x04000400 = none ∧ place 0x80162010 0x0BFF0BFF 0x000F0400 = none ∧
    place 0x80162010 0 0x04010400 = none ∧ place 0x80162010 0x0BFF0BFF 0x0400000F = none ∧
    place 0x80162010 0 0x04000401 = none ∧ place 0x80162010 0x0C000BFF 0x04000400 = none ∧
    place 0x80162010 0x0BFF0C00 0x04000400 = none ∧ place 0x8016D010 0x0BFF0BFF 0x04000400 = none ∧
    place 0x00000000 0xFFFFFFFF 0xFFFFFFFF = some none := by decide
/-- Chapter 11's layout of a button place, written out for BODY: code 31, label length 4, group 1, kind
RADIO, enabled and latched; at 1000, 40; 200 by 120; "BODY". -/
theorem test_placeWords_body : placeWords (some body) =
    [0x801F4123, 0x03E80028, 0x00C80078, 0x424F4459, 0, 0] := by decide
theorem witness_LoadClose : sessions.takesAtOnce (.loadClose 0 [0x01000000]) ∧
    sessions.takesAtOnce (.loadClose 0 [0x02000000]) ∧
    sessions.takesAtOnce (.loadClose 0 [0x00000000]) ∧ (∀ i, i < 2 → i ∈ [1, 0]) ∧
    halfSum (shadowWords .layers sessions.banks 2) = 0 ∧
    halfSum (shadowWords .menu sessions.banks 2) = 0 := by decide
/-- A menu shadow with two latched buttons in one radio group. -/
theorem witness_LoadClose_conflict :
    let t : MenuTable := { band := none, places := menuPlaces.set 3 (some { plan with latched := true }) }
    placeAt t 2 = some body ∧ placeAt t 3 = some { plan with latched := true } ∧
    body.kind = .radio ∧ body.group = plan.group := by decide
theorem witness_LoadAbort : sessions.takesAtOnce (.loadAbort 0 [0x01000000]) ∧
    sessions.takesAtOnce (.loadAbort 0 [0x02000000]) ∧
    roomy.takesAtOnce (.loadAbort 0 [0xFF000000]) := by decide
theorem witness_PlaceCross : roomy.takesAtOnce (.placeCross 0 [0x0FFF0FFF]) ∧
    (dragged true false roomy).takesAtOnce (.placeCross 0 [0]) := by decide
theorem witness_DragOrders : (dragged false false roomy).takesAtOnce (.suspendDrag 0 []) ∧
    (dragged true true roomy).takesAtOnce (.resumeDrag 0 []) ∧
    roomy.takesAtOnce (.cancelDrag 0 []) := by decide
theorem witness_ClearFault : roomy.takesAtOnce (.clearFault 0 [0xFF]) := by decide
theorem witness_PayloadOrders : roomy.takesAtOnce (.mark 0 [0xFFFF]) ∧
    roomy.takesAtOnce (.status 0 []) ∧ roomy.takesAtOnce (.describe 0 []) ∧
    roomy.takesAtOnce (.resetEnable 0 []) := by decide
theorem witness_Reset : let armed : State := { roomy with orders := { armed := true, inHand := none } }
    roomy.takesAtOnce (.reset 0 []) ∧ roomy.orders.armed = false ∧
    (armed.takesAtOnce (.reset 0 []) ∧ armed.orders.armed = true ∧ armed.trail.outstanding ≠ 0) ∧
    { armed with trail := State.reset.trail }.trail.outstanding = 0 ∧
    (roomy.decoder.phase = .overlay → roomy.overlay.emission ≠ .idle) := by decide
theorem witness_RefusedBeforeOwner :
    (Instr.unknownOrder 0 7 []).orderParts = some (0, 7, []) ∧
    (Instr.unknownOrder 19 7 []).wellFormed = true ∧ roomy.takesAtOnce (.unknownOrder 19 7 []) ∧
    (Instr.mark 7 []).orderParts = some (14, 7, []) ∧ roomy.takesAtOnce (.mark 7 []) ∧
    (Instr.status 7 [0]).orderParts = some (15, 7, [0]) ∧ roomy.takesAtOnce (.status 7 [0]) ∧
    roomy.takesAtOnce (.loadOpen 7 [0, 0]) ∧ roomy.takesAtOnce (.loadSegment 7 []) := by decide

/-! The ports, the resets and the invariants -/

theorem witness_EnqueueAndFill : (queued 31 State.reset).lane.queue.length < 32 ∧
    32 ≤ (queued 32 State.reset).lane.queue.length ∧
    (queued 30 State.reset).lane.queue.length + 2 ≤ 32 := by decide
/-- The lane state with one slot full and owed, both slots full and not owed, and an order held. -/
theorem witness_OutputPorts_lane :
    let track : TrackSlot := ⟨1, ⟨15, 15⟩, 255⟩
    let s : State := { State.reset with
      lane := { State.reset.lane with trackSlot := some track, owedTrack := true } }
    let u : State := { State.reset with
      lane := { State.reset.lane with dragSlot := some ⟨1, ⟨15, 15⟩, ⟨0, 0⟩, 0⟩ } }
    (s.lane.lane = .idle ∧ s.resetLow = false ∧ s.lane.trackSlot = some track ∧
      s.lane.owedTrack = true) ∧
    (u.lane.queue = [] ∧ u.lane.trackSlot = none ∧ u.lane.dragSlot ≠ none) ∧
    (State.reset.lane.queue = [] ∧ State.reset.lane.dragSlot = none) ∧
    (queued 32 State.reset).lane.queue = .overflow 1 1 :: List.replicate 31 (.overflow 1 1) ∧
    (queued 32 State.reset).lane.lane = .idle := by decide
theorem witness_OutputPorts_held :
    let s : State := { queued 32 State.reset with portLine := [.mark 12 [5]] }
    s.portLine = [.mark 12 [5]] ∧ (Instr.mark 12 [5]).isOrder = true ∧
    (Instr.mark 12 [5]).wellFormed = true ∧ stallCauses (.mark 12 [5]) s = [.queueFull] := by decide
theorem witness_ResetsRestart_release : let low : State := { State.reset with resetLow := true }
    low.resetLow = true ∧ low.portLine = [] ∧ low.lowArrivals = [] ∧
    ({ low with lowArrivals := [.move 1 2] } : State).lowArrivals = [.move 1 2] ∧
    (Instr.frameStart 0 high).isStreamItem = true ∧ (Instr.frameStart 0 high).wellFormed = true ∧
    (Instr.move 1 2).isStreamItem = true ∧ (Instr.move 1 2).wellFormed = true ∧
    State.reset.resetLow = false := by decide
/-- A drain that one completion ends, and one that has ended. -/
theorem witness_ResetsRestart_drain :
    let s : State := { inPhase .drawing with orders := { armed := false, inHand := some 9 } }
    (s.orders.inHand = some 9 ∧ s.resetLow = false ∧ s.portLine = [] ∧
      s.trail.named 0 = some (0, flat 0 .frameStart) ∧ s.coversFrameEnd 0 = false ∧
      s.decoder.phase ≠ .overlay ∧ s.overlay.emission = .idle ∧
      (s.trail.retired 0).outstanding = 0) ∧
    { s with trail := State.reset.trail }.trail.outstanding = 0 ∧
    State.reset.orders.inHand = none := by decide
/-- A drain ended with the item behind the RESET held, a completion in OVERLAY, and a completion that
closes the frame with nothing else outstanding. -/
theorem witness_ResetsRestart_work :
    let drain : OrderUnit := { armed := false, inHand := some 9 }
    let due : State := { State.reset with orders := drain, portLine := [.frameStart 0 high] }
    let mid : State := { emitting (.cross 0) (inPhase .overlay) with orders := drain }
    let close : State := { closing with orders := drain }
    (due.orders.inHand = some 9 ∧ due.trail.outstanding = 0 ∧ due.decoder.phase ≠ .overlay ∧
      due.resetLow = false) ∧
    (mid.orders.inHand = some 9 ∧ mid.resetLow = false ∧ mid.portLine = [] ∧
      mid.trail.named 0 = some (0, flat 0 .frameStart) ∧ mid.decoder.phase = .overlay) ∧
    close.orders.inHand = some 9 ∧ close.resetLow = false ∧ close.portLine = [] ∧
      close.trail.named 1 = some (1, flat 1 .frameEnd) ∧ close.coversFrameEnd 1 = true ∧
      close.decoder.phase = .closing ∧ close.overlay.emission = .idle ∧
      (close.trail.retired 1).outstanding = 0 := by decide
/-- The reset state keeps every law, and from it a queued FRAME START steps to a next state. -/
theorem witness_StepKeeps : let s : State := { State.reset with pending := [.frameStart 0 high] }
    s.trail.lawful = true ∧ s.phaseLaw = true ∧ s.penLaw = true ∧ s.screenLaw = true ∧
    s.capacityLaw = true ∧ s.radioLaw = true ∧ s.portLaw = true ∧ ∃ t, step s = .next t :=
  ⟨by decide, by decide, by decide, by decide, by decide, by decide, by decide, _, rfl⟩

end Sys2Proof.Tests
end

section
/-! The Tag Stack at a TAG item (R23, R24): what the taking of a TAG OPEN and of a TAG CLOSE leaves, row by
row of the rule's table, and the two obligations assembled from the rows. -/

namespace Sys2Proof.Machine

/-! ## In and outside a frame (R1) -/

section Taking
variable {layer : BitVec 8} {entity : BitVec 16} {s : State}

theorem takeTagOpen_discarded (out : s.decoder.phase ≠ .drawing) :
    takeTagOpen layer entity s = s.unarmed :=
  if_neg out

theorem takeTagOpen_drawing (drawing : s.decoder.phase = .drawing) :
    takeTagOpen layer entity s =
      { s.unarmed.faulted (openFaults s.tags entity.toNat layer.toNat) with
        tags := s.tags.openTag entity.toNat layer.toNat } :=
  if_pos drawing

theorem takeTagClose_discarded (out : s.decoder.phase ≠ .drawing) :
    takeTagClose s = s.unarmed :=
  if_neg out

theorem takeTagClose_drawing (drawing : s.decoder.phase = .drawing) :
    takeTagClose s =
      { s.unarmed.faulted (closeFaults s.tags) with tags := s.tags.closeTag } :=
  if_pos drawing

end Taking

/-! ## The rows of R23 -/

section Open
variable {t : TagStack} {entity layer : Nat}

theorem openTag_ignored (bad : entity = 0 ∨ 63 < layer) :
    t.openTag entity layer = t ∧ openFaults t entity layer = 1 :=
  ⟨if_pos bad, if_pos bad⟩

theorem openTag_appended (ok : ¬(entity = 0 ∨ 63 < layer)) (room : t.records.length < 8) :
    t.openTag entity layer = { t with records := t.records ++ [⟨entity, layer⟩] } ∧
      openFaults t entity layer = 0 := by
  constructor
  · rw [TagStack.openTag, if_neg ok]
    exact if_pos room
  · rw [openFaults, if_neg ok]
    exact if_pos room

theorem openFaults_full (ok : ¬(entity = 0 ∨ 63 < layer)) (full : ¬t.records.length < 8) :
    openFaults t entity layer = 1 := by
  rw [openFaults, if_neg ok]
  exact if_neg full

/-- At a full stack only the overflow depth can change, and it stops at 255. -/
theorem openTag_full (ok : ¬(entity = 0 ∨ 63 < layer)) (full : ¬t.records.length < 8) :
    t.openTag entity layer = if t.overflow < 255 then { t with overflow := t.overflow + 1 } else t := by
  rw [TagStack.openTag, if_neg ok]
  exact if_neg full

end Open

/-! ## The cases of R24 -/

section Close
variable {t : TagStack}

theorem closeTag_overflowed (deep : 0 < t.overflow) :
    t.closeTag = { t with overflow := t.overflow - 1 } ∧ closeFaults t = 0 :=
  ⟨if_pos deep, if_neg fun h => Nat.ne_of_gt deep h.1⟩

theorem closeTag_matched (flat : ¬0 < t.overflow) (held : t.records ≠ []) :
    t.closeTag = { t with records := t.records.dropLast } ∧ closeFaults t = 0 :=
  ⟨if_neg flat, if_neg fun h => held h.2⟩

theorem closeTag_unmatched (flat : ¬0 < t.overflow) (empty : t.records = []) :
    t.closeTag = t ∧ closeFaults t = 1 := by
  have same : t.records.dropLast = t.records := by rw [empty, List.dropLast_nil]
  refine ⟨?_, if_pos ⟨Nat.eq_zero_of_not_pos flat, empty⟩⟩
  rw [TagStack.closeTag, if_neg flat, same]

end Close

/-! ## The obligations -/

/-- Settles O12: the item is taken at once, and each row of R23 gives the stack and the fault. -/
theorem tagOpenTaken : Obligations.TagOpenTaken := by
  intro layer entity s h
  have taken : exec (.tagOpen layer entity) s = .next (takeTagOpen layer entity s) :=
    exec_takes rfl rfl h
  rw [taken]
  congr 1
  split_ifs with out bad room depth
  · exact takeTagOpen_discarded out
  all_goals rw [takeTagOpen_drawing (not_not.mp out)]
  · obtain ⟨stack, fault⟩ := openTag_ignored (t := s.tags) bad
    rw [stack, fault]
    rfl
  · obtain ⟨stack, fault⟩ := openTag_appended bad room
    rw [stack, fault]
    rfl
  · rw [openFaults_full bad room, openTag_full bad room, if_pos depth]
  · rw [openFaults_full bad room, openTag_full bad room, if_neg depth]
    rfl

/-- Settles O13: the item is taken at once, and each case of R24 gives the stack and the fault. -/
theorem tagCloseTaken : Obligations.TagCloseTaken := by
  intro s h
  have taken : exec .tagClose s = .next (takeTagClose s) := exec_takes rfl rfl h
  rw [taken]
  congr 1
  split_ifs with out deep held
  · exact takeTagClose_discarded out
  all_goals rw [takeTagClose_drawing (not_not.mp out)]
  · obtain ⟨stack, fault⟩ := closeTag_overflowed deep
    rw [stack, fault]
    rfl
  · obtain ⟨stack, fault⟩ := closeTag_matched deep held
    rw [stack, fault]
    rfl
  · obtain ⟨stack, fault⟩ := closeTag_unmatched deep (not_not.mp held)
    rw [stack, fault]
    rfl

end Sys2Proof.Machine
end

section
/-! The hit of Chapter 3: walk-back (R45 to R48), the point of a landing (R49 to R51) and the snap of a
dark landing (R53 to R55), each search given by its equations first. -/

namespace Sys2Proof.Machine

/-- The steps of path over a list of entries. -/
def pathLength (es : List Entry) : Nat := (es.map fun x => x.length).sum

@[simp] theorem pathLength_nil : pathLength [] = 0 := rfl

@[simp] theorem pathLength_cons (x : Entry) (es : List Entry) :
    pathLength (x :: es) = x.length + pathLength es :=
  List.sum_cons

/-! ## Walk-back (R45 to R48) -/

section WalkBack
variable {r : Nat} {cur j : Entry} {newer older : List Entry}

theorem stepBack_nil : stepBack r cur newer [] = none := rfl

theorem stepBack_frameStart (start : cur.kind = .frameStart) :
    stepBack r cur newer older = none := by
  cases older with
  | nil => rfl
  | cons j older => exact if_pos start

theorem stepBack_lands (go : cur.kind ≠ .frameStart) (within : r ≤ j.length) :
    stepBack r cur newer (j :: older) = some ⟨j, j.length - r, older, cur :: newer⟩ := by
  rw [stepBack, if_neg go, if_pos within]

theorem stepBack_passes (go : cur.kind ≠ .frameStart) (beyond : ¬r ≤ j.length) :
    stepBack r cur newer (j :: older) = stepBack (r - j.length) j (cur :: newer) older := by
  rw [stepBack, if_neg go, if_neg beyond]

/-- R46: the walk lands the `r` steps back, strictly before the end point of the entry landed in. -/
theorem exists_passed_of_stepBack_eq_some {l : Landing} (left : 0 < r)
    (lands : stepBack r cur newer older = some l) :
    ∃ passed, older = passed ++ l.entry :: l.older ∧ l.newer = passed.reverse ++ cur :: newer ∧
      l.offset < l.entry.length ∧ pathLength passed + (l.entry.length - l.offset) = r ∧
      ∀ x ∈ cur :: passed, x.kind ≠ .frameStart := by
  induction older generalizing r cur newer with
  | nil => cases lands
  | cons j older ih =>
    have go : cur.kind ≠ .frameStart := fun start => by
      rw [stepBack_frameStart start] at lands
      cases lands
    by_cases within : r ≤ j.length
    · rw [stepBack_lands go within] at lands
      cases lands
      refine ⟨[], rfl, rfl, by dsimp only; omega, ?_, by simpa using go⟩
      simp only [pathLength_nil]
      omega
    · rw [stepBack_passes go within] at lands
      obtain ⟨passed, parts, newer_eq, inside, walked, noStart⟩ := ih (by omega) lands
      refine ⟨j :: passed, by rw [parts]; rfl, by simp [newer_eq], inside, ?_, ?_⟩
      · rw [pathLength_cons]
        omega
      · exact List.forall_mem_cons.mpr ⟨go, noStart⟩

/-- R47: the walk ends without a landing exactly where the entries passed hold fewer than `r` steps and
it has come to the oldest entry or to a FRAME START. -/
theorem stepBack_eq_none_iff (left : 0 < r) :
    stepBack r cur newer older = none ↔
      ∃ passed rest, older = passed ++ rest ∧ pathLength passed < r ∧
        (rest = [] ∨ ∃ x, (cur :: passed).getLast? = some x ∧ x.kind = .frameStart) := by
  induction older generalizing r cur newer with
  | nil => exact iff_of_true stepBack_nil ⟨[], [], rfl, left, .inl rfl⟩
  | cons j older ih =>
    by_cases start : cur.kind = .frameStart
    · exact iff_of_true (stepBack_frameStart start)
        ⟨[], j :: older, rfl, left, .inr ⟨cur, rfl, start⟩⟩
    by_cases within : r ≤ j.length
    · rw [stepBack_lands start within]
      refine iff_of_false nofun ?_
      rintro ⟨_ | ⟨j', passed⟩, rest, parts, short, stop⟩
      · obtain rfl | ⟨x, last, kind⟩ := stop
        · cases parts
        · cases last
          exact start kind
      · cases parts
        rw [pathLength_cons] at short
        omega
    · rw [stepBack_passes start within, ih (by omega)]
      constructor
      · rintro ⟨passed, rest, parts, short, stop⟩
        refine ⟨j :: passed, rest, by rw [parts]; rfl, ?_, ?_⟩
        · rw [pathLength_cons]
          omega
        · rwa [List.getLast?_cons_cons]
      · rintro ⟨_ | ⟨j', passed⟩, rest, parts, short, stop⟩
        · obtain rfl | ⟨x, last, kind⟩ := stop
          · cases parts
          · cases last
            exact absurd kind start
        · cases parts
          rw [pathLength_cons] at short
          rw [List.getLast?_cons_cons] at stop
          exact ⟨passed, rest, rfl, by omega, stop⟩

end WalkBack

section Landing
variable {lag e : Nat} {h : Entry} {older : List Entry}

theorem landing_within (within : lag ≤ min e h.length) :
    landing lag e h older = some ⟨h, min e h.length - lag, older, []⟩ :=
  if_pos within

theorem landing_beyond (beyond : ¬lag ≤ min e h.length) :
    landing lag e h older = stepBack (lag - min e h.length) h [] older :=
  if_neg beyond

end Landing

/-- Settles O34: the lag within the named entry's progress lands there, and beyond it the walk's own
account of the steps left answers. -/
theorem landingIsLagStepsBack : Obligations.LandingIsLagStepsBack := by
  intro lag e h older p steps
  by_cases within : lag ≤ p
  · rw [landing_within within]
    constructor
    · rintro l ⟨⟩
      exact .inl ⟨within, rfl, Nat.sub_add_cancel within, rfl, rfl⟩
    · refine iff_of_false nofun ?_
      rintro ⟨passed, rest, -, short, -⟩
      omega
  · have left : 0 < lag - p := by omega
    rw [landing_beyond within]
    constructor
    · intro l lands
      obtain ⟨passed, parts, newer_eq, inside, walked, noStart⟩ :=
        exists_passed_of_stepBack_eq_some left lands
      have total : p + pathLength passed + (l.entry.length - l.offset) = lag := by omega
      exact .inr ⟨passed, parts, newer_eq, inside, total, noStart⟩
    · have short_iff : ∀ passed, pathLength passed < lag - p ↔ p + pathLength passed < lag := by
        omega
      have none_iff := stepBack_eq_none_iff (cur := h) (newer := []) (older := older) left
      simp only [short_iff] at none_iff
      exact none_iff

/-! ## Points along a stroke (R49, R50) -/

/-- The steps from the start on an axis of extent `d` at offset `q` along a stroke of length `l`:
`d * q / l`, rounded to the nearest with a half upward. -/
def roundedSteps (d q l : Nat) : Nat := (2 * d * q + l) / (2 * l)

/-- R49 on one axis: `v` lies between the ends, its distance from the start is the exact one rounded,
and on the longer axis it is the offset. -/
def RoundedAlong (a b q l v : Nat) : Prop :=
  min a b ≤ v ∧ v ≤ max a b ∧
  2 * l * absDiff a v ≤ 2 * absDiff a b * q + l ∧
  2 * absDiff a b * q + l < 2 * l * absDiff a v + 2 * l ∧
  (absDiff a b = l → absDiff a v = q)

section RoundedSteps
variable {d q l k : Nat}

theorem roundedSteps_eq_iff (pos : 0 < l) :
    roundedSteps d q l = k ↔ 2 * l * k ≤ 2 * d * q + l ∧ 2 * d * q + l < 2 * l * k + 2 * l := by
  rw [roundedSteps, Nat.div_eq_iff (by omega), Nat.mul_comm k]
  omega

theorem roundedSteps_longer (pos : 0 < l) : roundedSteps l q l = q :=
  (roundedSteps_eq_iff pos).mpr (by omega)

theorem roundedSteps_zero (pos : 0 < l) : roundedSteps d 0 l = 0 :=
  (roundedSteps_eq_iff pos).mpr (by omega)

theorem roundedSteps_end (pos : 0 < l) : roundedSteps d l l = d :=
  (roundedSteps_eq_iff pos).mpr (by rw [Nat.mul_right_comm 2 d l]; omega)

theorem roundedSteps_le (pos : 0 < l) (inside : q ≤ l) : roundedSteps d q l ≤ d :=
  calc
    roundedSteps d q l ≤ roundedSteps d l l := by unfold roundedSteps; gcongr
    _ = d := roundedSteps_end pos

end RoundedSteps

section Axis
variable {a b q l : Nat}

theorem alongAxis_eq :
    alongAxis a b q l =
      if a ≤ b then a + roundedSteps (absDiff a b) q l else a - roundedSteps (absDiff a b) q l :=
  rfl

theorem absDiff_alongAxis (pos : 0 < l) (inside : q ≤ l) :
    absDiff a (alongAxis a b q l) = roundedSteps (absDiff a b) q l := by
  have bound := roundedSteps_le (d := absDiff a b) pos inside
  rw [alongAxis_eq]
  unfold absDiff at *
  split_ifs <;> omega

theorem alongAxis_mem_box (pos : 0 < l) (inside : q ≤ l) :
    min a b ≤ alongAxis a b q l ∧ alongAxis a b q l ≤ max a b := by
  have bound := roundedSteps_le (d := absDiff a b) pos inside
  rw [alongAxis_eq]
  unfold absDiff at *
  split_ifs <;> omega

theorem alongAxis_roundedAlong (pos : 0 < l) (inside : q ≤ l) :
    RoundedAlong a b q l (alongAxis a b q l) := by
  obtain ⟨above, below⟩ := alongAxis_mem_box (a := a) (b := b) pos inside
  obtain ⟨lower, upper⟩ := (roundedSteps_eq_iff (d := absDiff a b) (q := q) pos).mp rfl
  rw [RoundedAlong, absDiff_alongAxis pos inside]
  refine ⟨above, below, lower, upper, fun longer => ?_⟩
  rw [longer, roundedSteps_longer pos]

theorem alongAxis_zero (pos : 0 < l) : alongAxis a b 0 l = a := by
  rw [alongAxis_eq, roundedSteps_zero pos]
  exact ite_self a

theorem alongAxis_end (pos : 0 < l) : alongAxis a b l l = b := by
  rw [alongAxis_eq, roundedSteps_end pos]
  unfold absDiff
  split_ifs <;> omega

end Axis

theorem chebyshev_pos {p q : Point} (apart : p ≠ q) : 0 < chebyshev p q := by
  obtain ⟨px, py⟩ := p
  obtain ⟨qx, qy⟩ := q
  rw [ne_eq, Point.mk.injEq] at apart
  unfold chebyshev absDiff
  dsimp only
  omega

section Point
variable {e : Entry} {q : Nat}

theorem landingPoint_dot (bare : e.glyph = none) (dot : e.start = e.stop) :
    landingPoint e q = e.start := by
  rw [landingPoint, bare]
  exact if_pos dot

theorem landingPoint_stroke (bare : e.glyph = none) (apart : e.start ≠ e.stop) :
    landingPoint e q =
      ⟨alongAxis e.start.x e.stop.x q (chebyshev e.start e.stop),
        alongAxis e.start.y e.stop.y q (chebyshev e.start e.stop)⟩ := by
  rw [landingPoint, bare]
  exact if_neg apart

/-! ## Cells of a glyph run (R51) -/

theorem landingPoint_glyph {g : Glyph} (run : e.glyph = some g) :
    landingPoint e q =
      cellCentre e.start g.size (min (q / (e.length / g.count)) (g.count - 1)) := by
  rw [landingPoint, run]

/-- The cell number, held to the last cell, is the cell `q` lies in, or the last one at the run's end. -/
theorem min_div_eq_cell {count cell : Nat} (some_cell : 0 < count) (wide : 0 < cell)
    (inside : q ≤ count * cell) :
    min (q / cell) (count - 1) = (if q = count * cell then count - 1 else q / cell) ∧
      (if q = count * cell then count - 1 else q / cell) < count := by
  split_ifs with at_end
  · rw [at_end, Nat.mul_div_cancel _ wide]
    omega
  · have : q / cell < count := (Nat.div_lt_iff_lt_mul wide).mpr (by omega)
    omega

end Point

/-- Settles O35: each axis of a stroke by the rounding of its own distance, and a glyph run by the
division of its length into cells. -/
theorem strokePointOnLine : Obligations.StrokePointOnLine := by
  refine ⟨fun e q => landingPoint_dot, ?_, ?_⟩
  · intro e q bare apart inside p l on
    have pos : 0 < l := chebyshev_pos apart
    have point : p = ⟨alongAxis e.start.x e.stop.x q l, alongAxis e.start.y e.stop.y q l⟩ :=
      landingPoint_stroke bare apart
    rw [point]
    refine ⟨alongAxis_roundedAlong pos inside, alongAxis_roundedAlong pos inside, ?_, ?_⟩
    · rintro rfl
      rw [alongAxis_zero pos, alongAxis_zero pos]
    · rintro rfl
      rw [alongAxis_end pos, alongAxis_end pos]
  · intro e size count cell q run some_cell wide length inside k
    rw [length] at inside
    obtain ⟨held, bound⟩ := min_div_eq_cell some_cell wide inside
    rw [← length] at held bound
    refine ⟨bound, ?_⟩
    have cell_eq : e.length / count = cell := by rw [length, Nat.mul_div_cancel_left _ some_cell]
    rw [landingPoint_glyph run]
    dsimp only
    rw [cell_eq, held]
    rfl

/-! ## The candidates of a dark landing (R53, R54) -/

section Backward
variable {d : Nat} {cur j : Entry} {older : List Entry}

theorem backward_frameStart (start : cur.kind = .frameStart) : backward d cur older = none := by
  cases older with
  | nil => rfl
  | cons j older => exact if_pos start

theorem backward_lit (go : cur.kind ≠ .frameStart) (lit : j.lit = true) :
    backward d cur (j :: older) = some ⟨j, lastPoint j, d⟩ := by
  rw [backward, if_neg go, if_pos lit]

theorem backward_dark (go : cur.kind ≠ .frameStart) (dark : ¬j.lit = true) :
    backward d cur (j :: older) = backward (d + j.length) j older := by
  rw [backward, if_neg go, if_neg dark]

end Backward

section Forward
variable {d : Nat} {j : Entry} {newer : List Entry}

theorem forward_lit (lit : j.lit = true) :
    forward d (j :: newer) = some ⟨j, firstPoint j, d⟩ :=
  if_pos lit

theorem forward_dark (dark : ¬j.lit = true) :
    forward d (j :: newer) = forward (d + j.length) newer :=
  if_neg dark

end Forward

/-- The entry of `c` is the first lit one of `es`: `passed` are the entries before it. -/
def FirstLitAfter (es passed : List Entry) (c : Candidate) : Prop :=
  (∃ rest, es = passed ++ c.entry :: rest) ∧ c.entry.lit = true ∧ ∀ x ∈ passed, x.lit = false

section FirstLit
variable {j : Entry} {es passed : List Entry} {c : Candidate}

theorem not_firstLitAfter_nil : ¬FirstLitAfter [] passed c := by
  rintro ⟨⟨rest, parts⟩, -⟩
  exact absurd parts.symm (List.append_ne_nil_of_right_ne_nil _ (List.cons_ne_nil _ _))

theorem firstLitAfter_lit (lit : j.lit = true) :
    FirstLitAfter (j :: es) passed c ↔ passed = [] ∧ c.entry = j := by
  constructor
  · rintro ⟨⟨rest, parts⟩, -, dark⟩
    cases passed with
    | nil => exact ⟨rfl, (List.cons.inj parts).1.symm⟩
    | cons x passed =>
      cases parts
      exact absurd lit (by simp [dark j])
  · rintro ⟨rfl, rfl⟩
    exact ⟨⟨es, rfl⟩, lit, nofun⟩

theorem firstLitAfter_dark (dark : ¬j.lit = true) :
    FirstLitAfter (j :: es) passed c ↔ ∃ later, passed = j :: later ∧ FirstLitAfter es later c := by
  constructor
  · rintro ⟨⟨rest, parts⟩, lit, unlit⟩
    cases passed with
    | nil =>
      cases parts
      exact absurd lit dark
    | cons x passed =>
      cases parts
      exact ⟨passed, rfl, ⟨rest, rfl⟩, lit, (List.forall_mem_cons.mp unlit).2⟩
  · rintro ⟨later, rfl, ⟨rest, rfl⟩, lit, unlit⟩
    exact ⟨⟨rest, rfl⟩, lit, List.forall_mem_cons.mpr ⟨Bool.eq_false_iff.mpr dark, unlit⟩⟩

end FirstLit

/-- R53: the search over the earlier entries stops at the first lit one or at a FRAME START. -/
theorem backward_eq_some_iff {d : Nat} {cur : Entry} {older : List Entry} {c : Candidate} :
    backward d cur older = some c ↔
      ∃ passed, FirstLitAfter older passed c ∧ (∀ x ∈ cur :: passed, x.kind ≠ .frameStart) ∧
        c.distance = d + pathLength passed ∧ c.point = lastPoint c.entry := by
  induction older generalizing d cur with
  | nil => exact iff_of_false nofun fun ⟨_, first, _⟩ => not_firstLitAfter_nil first
  | cons j older ih =>
    by_cases start : cur.kind = .frameStart
    · rw [backward_frameStart start]
      exact iff_of_false nofun fun ⟨_, _, noStart, _⟩ =>
        noStart cur List.mem_cons_self start
    by_cases lit : j.lit = true
    · obtain ⟨entry, point, distance⟩ := c
      rw [backward_lit start lit]
      simp only [firstLitAfter_lit lit]
      constructor
      · rintro ⟨⟩
        exact ⟨[], ⟨rfl, rfl⟩, by simpa using start, rfl, rfl⟩
      · rintro ⟨_, ⟨rfl, rfl⟩, -, rfl, rfl⟩
        rfl
    · rw [backward_dark start lit, ih]
      simp only [firstLitAfter_dark lit]
      constructor
      · rintro ⟨later, first, noStart, distance, point⟩
        refine ⟨j :: later, ⟨later, rfl, first⟩, ?_, ?_, point⟩
        · exact List.forall_mem_cons.mpr ⟨start, noStart⟩
        · rw [distance, pathLength_cons, Nat.add_assoc]
      · rintro ⟨_, ⟨later, rfl, first⟩, noStart, distance, point⟩
        refine ⟨later, first, (List.forall_mem_cons.mp noStart).2, ?_, point⟩
        rw [distance, pathLength_cons, Nat.add_assoc]

/-- R54: the search over the later entries stops at the first lit one, at the named one at the latest. -/
theorem forward_eq_some_iff {d : Nat} {newer : List Entry} {c : Candidate} :
    forward d newer = some c ↔
      ∃ passed, FirstLitAfter newer passed c ∧
        c.distance = d + pathLength passed ∧ c.point = firstPoint c.entry := by
  induction newer generalizing d with
  | nil => exact iff_of_false nofun fun ⟨_, first, _⟩ => not_firstLitAfter_nil first
  | cons j newer ih =>
    by_cases lit : j.lit = true
    · obtain ⟨entry, point, distance⟩ := c
      rw [forward_lit lit]
      simp only [firstLitAfter_lit lit]
      constructor
      · rintro ⟨⟩
        exact ⟨[], ⟨rfl, rfl⟩, rfl, rfl⟩
      · rintro ⟨_, ⟨rfl, rfl⟩, rfl, rfl⟩
        rfl
    · rw [forward_dark lit, ih]
      simp only [firstLitAfter_dark lit]
      constructor
      · rintro ⟨later, first, distance, point⟩
        refine ⟨j :: later, ⟨later, rfl, first⟩, ?_, point⟩
        rw [distance, pathLength_cons, Nat.add_assoc]
      · rintro ⟨_, ⟨later, rfl, first⟩, distance, point⟩
        refine ⟨later, first, ?_, point⟩
        rw [distance, pathLength_cons, Nat.add_assoc]

/-! ## The choice and the SNAP test (R55) -/

section Snap
variable {b f : Option Candidate} {c : Candidate} {l : Landing} {snap : Nat}

theorem chooseCandidate_backward (back : b = some c)
    (nearest : ∀ d, f = some d → c.distance ≤ d.distance) : chooseCandidate b f = some c := by
  subst back
  cases f with
  | none => rfl
  | some d => exact if_neg (Nat.not_lt.mpr (nearest d rfl))

theorem chooseCandidate_forward (ahead : f = some c)
    (nearer : ∀ d, b = some d → c.distance < d.distance) : chooseCandidate b f = some c := by
  subst ahead
  cases b with
  | none => rfl
  | some d => exact if_pos (nearer d rfl)

theorem resolveLanding_none (dark : l.entry.lit = false) (lone : l.candidate = none) :
    resolveLanding snap l = .dark := by
  simp [resolveLanding, dark, lone]

theorem resolveLanding_some (dark : l.entry.lit = false) (chosen : l.candidate = some c) :
    resolveLanding snap l = if c.distance ≤ snap then .seen c.entry c.point true else .dark := by
  simp [resolveLanding, dark, chosen]

end Snap

/-- Settles O36: both searches find the first lit entry at the unlit path passed, and the choice between
their answers meets the SNAP test. -/
theorem darkLandingDecided : Obligations.DarkLandingDecided := by
  intro l snap dark steps centre b f
  refine ⟨fun c => ?_, fun c => ?_, fun noBack noAhead => ?_, fun c best => ?_⟩
  · refine backward_eq_some_iff.trans ⟨?_, ?_⟩
    · rintro ⟨passed, ⟨⟨rest, parts⟩, lit, unlit⟩, noStart, distance, point⟩
      exact ⟨passed, rest, parts, lit, unlit, noStart, distance, point⟩
    · rintro ⟨passed, rest, parts, lit, unlit, noStart, distance, point⟩
      exact ⟨passed, ⟨⟨rest, parts⟩, lit, unlit⟩, noStart, distance, point⟩
  · refine forward_eq_some_iff.trans ⟨?_, ?_⟩
    · rintro ⟨passed, ⟨⟨rest, parts⟩, lit, unlit⟩, distance, point⟩
      exact ⟨passed, rest, parts, lit, unlit, distance, point⟩
    · rintro ⟨passed, rest, parts, lit, unlit, distance, point⟩
      exact ⟨passed, ⟨⟨rest, parts⟩, lit, unlit⟩, distance, point⟩
  · have lone : l.candidate = chooseCandidate b f := rfl
    rw [noBack, noAhead] at lone
    exact resolveLanding_none dark lone
  · have chosen : l.candidate = some c := by
      obtain ⟨back, nearest⟩ | ⟨ahead, nearer⟩ := best
      · exact chooseCandidate_backward back nearest
      · exact chooseCandidate_forward ahead nearer
    exact ⟨chosen, resolveLanding_some dark chosen⟩

end Sys2Proof.Machine
end

section
/-! The Hit Set (Chapter 4, 4.1 and 4.2): a rank is the order of one lexicographic key, so its winner
and its lowest record are the greatest and the least under that key; and the cases of a hand-over
(R66, R67). -/

namespace Sys2Proof.Machine

/-! ## The key of a rank (R68) -/

/-- The keys of R68 most significant first: priority, distance, hit count, arrival, sequence. A key by
which the smaller value ranks higher is in the dual order. -/
abbrev RankKey : Type := ℕ ×ₗ ℕᵒᵈ ×ₗ ℕ ×ₗ ℕᵒᵈ ×ₗ ℕᵒᵈ

/-- The key of a record; in a rank that leaves the hit count out, every count is taken as 0. -/
def Ranking.key (r : Ranking) (a : HitRecord) : RankKey :=
  toLex ((layerEntry r.table a.layer).priority,
    toLex (OrderDual.toDual (refDistance r.ref a.point),
      toLex (if r.useCount then a.hits else 0,
        toLex (OrderDual.toDual a.arrival, OrderDual.toDual a.seq))))

section FirstDifference
variable {x y : ℕ} {used later : Bool}

theorem larger_or_next :
    (if x ≠ y then decide (y < x) else later) = true ↔ y < x ∨ x = y ∧ later = true := by
  split_ifs with differ
  · simp [differ]
  · simp [not_not.mp differ]

theorem smaller_or_next :
    (if x ≠ y then decide (x < y) else later) = true ↔ x < y ∨ x = y ∧ later = true := by
  split_ifs with differ
  · simp [differ]
  · simp [not_not.mp differ]

/-- The hit count decides only in the rank that uses it. -/
theorem counted_or_next :
    (if used && x != y then decide (y < x) else later) = true ↔
      used = true ∧ y < x ∨ (used = true → x = y) ∧ later = true := by
  cases used with
  | false => simp
  | true => simpa using larger_or_next

end FirstDifference

section Rank
variable {r : Ranking} {a b c m : HitRecord} {rs : List HitRecord}

theorem Ranking.key_lt_key_iff :
    r.key b < r.key a ↔
      (layerEntry r.table b.layer).priority < (layerEntry r.table a.layer).priority ∨
      (layerEntry r.table a.layer).priority = (layerEntry r.table b.layer).priority ∧
        (refDistance r.ref a.point < refDistance r.ref b.point ∨
        refDistance r.ref a.point = refDistance r.ref b.point ∧
          (r.useCount = true ∧ b.hits < a.hits ∨ (r.useCount = true → a.hits = b.hits) ∧
            (a.arrival < b.arrival ∨ a.arrival = b.arrival ∧ a.seq < b.seq))) := by
  simp only [Ranking.key, Prod.Lex.toLex_gt_toLex, OrderDual.toDual_lt_toDual, OrderDual.toDual_inj]
  cases r.useCount <;> simp

/-- The model's chain of tests is the lexicographic order of the keys. -/
theorem Ranking.above_iff_key_lt : r.above a b = true ↔ r.key b < r.key a := by
  rw [Ranking.key_lt_key_iff]
  simp only [Ranking.above, larger_or_next, smaller_or_next, counted_or_next, decide_eq_true_eq]

theorem Ranking.above_eq_false_iff_key_le : r.above a b = false ↔ r.key a ≤ r.key b := by
  rw [Bool.eq_false_iff, ne_eq, Ranking.above_iff_key_lt, not_lt]

theorem Ranking.above_trans (ab : r.above a b = true) (bc : r.above b c = true) :
    r.above a c = true :=
  above_iff_key_lt.mpr ((above_iff_key_lt.mp bc).trans (above_iff_key_lt.mp ab))

theorem Ranking.seq_eq_of_key_eq (same : r.key a = r.key b) : a.seq = b.seq :=
  congrArg (fun k : RankKey => OrderDual.ofDual (ofLex (ofLex (ofLex (ofLex k).2).2).2).2) same

/-- Of two records with distinct numbers the one with the greater key ranks above the other. -/
theorem Ranking.above_of_key_le (le : r.key b ≤ r.key a) (distinct : a.seq ≠ b.seq) :
    r.above a b = true :=
  above_iff_key_lt.mpr (le.lt_of_ne fun same => distinct (seq_eq_of_key_eq same.symm))

theorem Ranking.above_iff_not_above (distinct : a.seq ≠ b.seq) :
    r.above a b = true ↔ r.above b a = false := by
  rw [above_eq_false_iff_key_le]
  exact ⟨fun ab => (above_iff_key_lt.mp ab).le, fun le => above_of_key_le le distinct⟩

/-! ## The winner and the lowest record -/

/-- Mathlib's fold for `argmax` and `argmin`, once it holds an element, is the model's. -/
theorem foldl_argAux_some {α : Type} {R : α → α → Prop} [DecidableRel R] (h : α) (t : List α) :
    t.foldl (List.argAux R) (some h) =
      some (t.foldl (fun best c => if R c best then c else best) h) := by
  induction t generalizing h with
  | nil => rfl
  | cons x t ih =>
    have step : List.argAux R (some h) x = some (if R x h then x else h) :=
      (apply_ite some _ _ _).symm
    rw [List.foldl_cons, List.foldl_cons, step, ih]

theorem Ranking.winner_eq_argmax : r.winner rs = rs.argmax r.key := by
  cases rs with
  | nil => rfl
  | cons h t =>
    simp only [Ranking.winner, above_iff_key_lt]
    exact (foldl_argAux_some h t).symm

theorem Ranking.lowest_eq_argmin : r.lowest rs = rs.argmin r.key := by
  cases rs with
  | nil => rfl
  | cons h t =>
    simp only [Ranking.lowest, above_iff_key_lt]
    exact (foldl_argAux_some h t).symm

theorem seq_ne_of_nodup (distinct : (rs.map fun x => x.seq).Nodup) (ha : a ∈ rs) (hb : b ∈ rs)
    (ne : a ≠ b) : a.seq ≠ b.seq :=
  fun same => ne (List.inj_on_of_nodup_map distinct ha hb same)

theorem Ranking.winner_above (won : r.winner rs = some m)
    (distinct : (rs.map fun x => x.seq).Nodup) :
    m ∈ rs ∧ ∀ x ∈ rs, x ≠ m → r.above m x = true := by
  rw [winner_eq_argmax] at won
  have mem := List.argmax_mem won
  exact ⟨mem, fun x hx ne =>
    above_of_key_le (List.le_of_mem_argmax hx won) (seq_ne_of_nodup distinct mem hx ne.symm)⟩

theorem Ranking.lowest_below (found : r.lowest rs = some m)
    (distinct : (rs.map fun x => x.seq).Nodup) :
    m ∈ rs ∧ ∀ x ∈ rs, x ≠ m → r.above x m = true := by
  rw [lowest_eq_argmin] at found
  have mem := List.argmin_mem found
  exact ⟨mem, fun x hx ne =>
    above_of_key_le (List.le_of_mem_argmin hx found) (seq_ne_of_nodup distinct hx mem ne)⟩

theorem Ranking.exists_winner (held : rs ≠ []) : ∃ w, r.winner rs = some w :=
  Option.ne_none_iff_exists'.mp fun h => held (List.argmax_eq_none.mp (winner_eq_argmax ▸ h))

theorem Ranking.exists_lowest (held : rs ≠ []) : ∃ low, r.lowest rs = some low :=
  Option.ne_none_iff_exists'.mp fun h => held (List.argmin_eq_none.mp (lowest_eq_argmin ▸ h))

end Rank

/-! ## The cases of a hand-over (R66, R67) -/

section HandOver
variable {new low : HitRecord} {s : State}

theorem any_seq_iff :
    (s.hitSet.any fun r => r.seq == new.seq) = true ↔ ∃ r ∈ s.hitSet, r.seq = new.seq := by
  simp

theorem handOver_merged (held : ∃ r ∈ s.hitSet, r.seq = new.seq) :
    handOver new s =
      countWith (fun c => { c with merged := bump c.merged })
        (s.setHitSet (mergeHit new.seq s.hitSet)) :=
  if_pos (any_seq_iff.mpr held)

theorem handOver_placed (fresh : ¬∃ r ∈ s.hitSet, r.seq = new.seq) (room : s.hitSet.length < 16) :
    handOver new s = s.setHitSet (s.hitSet ++ [new]) := by
  rw [handOver, if_neg (mt any_seq_iff.mp fresh)]
  exact if_pos room

theorem handOver_full (fresh : ¬∃ r ∈ s.hitSet, r.seq = new.seq) (full : 16 ≤ s.hitSet.length)
    (found : s.insertionRank.lowest s.hitSet = some low) :
    handOver new s =
      countWith (fun c => { c with displaced := bump c.displaced })
        (s.setHitSet (if s.insertionRank.above new low = true then
          (s.hitSet.filter fun r => r.seq ≠ low.seq) ++ [new] else s.hitSet)) := by
  have others : (s.hitSet.filter fun r => r.seq != low.seq) =
      s.hitSet.filter fun r => r.seq ≠ low.seq :=
    List.filter_congr fun r _ => Bool.eq_iff_iff.mpr (by simp)
  have no_room : ¬s.hitSet.length < Config.hitSet := Nat.not_lt.mpr full
  rw [handOver, if_neg (mt any_seq_iff.mp fresh), if_neg no_room, found, ← others]

end HandOver

/-! ## The obligations -/

/-- Settles O37: the three cases of a hand-over; a full set is not empty and so has a lowest record. -/
theorem handOverMergesOrPlaces : Obligations.HandOverMergesOrPlaces := by
  intro new s k held
  refine ⟨fun merged => handOver_merged merged, fun fresh room => handOver_placed fresh room,
    fun fresh full distinct => ?_⟩
  have some_held : s.hitSet ≠ [] := List.ne_nil_of_length_pos (by omega)
  obtain ⟨low, found⟩ := s.insertionRank.exists_lowest some_held
  obtain ⟨mem, below⟩ := Ranking.lowest_below found distinct
  exact ⟨low, mem, below, handOver_full fresh full found⟩

/-- Settles O38: a rank is the order of its key, which ends in the sequence number. -/
theorem winnerRanksAboveAll : Obligations.WinnerRanksAboveAll := by
  refine ⟨fun s => ⟨rfl, rfl, rfl, rfl, rfl, rfl⟩, fun r => ⟨?_, ?_, ?_, rfl, ?_⟩⟩
  · intro p a b present pri far
    have distance : ∀ x : HitRecord, refDistance r.ref x.point = far x := fun x => by
      rw [present]
      rfl
    rw [Ranking.above_iff_key_lt, Ranking.key_lt_key_iff, distance, distance]
  · exact fun a b distinct => Ranking.above_iff_not_above distinct
  · exact fun a b c ab bc => Ranking.above_trans ab bc
  · intro rs held distinct
    obtain ⟨w, won⟩ := r.exists_winner held
    obtain ⟨mem, above⟩ := Ranking.winner_above won distinct
    exact ⟨w, mem, won, above⟩

end Sys2Proof.Machine
end

section
/-! PLACE CROSS (R109): the Tracking Unit's answer, row by row of the rule's table, and the order's taking
assembled from the rows. -/

namespace Sys2Proof.Machine

/-! ## The rows of R109 -/

section PlaceCross
variable {tag : BitVec 8} {f : List Word} {w : Word} {s : State}

theorem placeCrossOwner_stowed (stowed : s.pen.state = .stowed) :
    placeCrossOwner f s = refuse .penStowed s :=
  if_pos stowed

theorem placeCrossOwner_dragging (unstowed : s.pen.state ≠ .stowed) (drag : s.tracking.drag ≠ none) :
    placeCrossOwner f s = refuse .dragActive s := by
  rw [placeCrossOwner, if_neg unstowed, if_pos (Option.isSome_iff_ne_none.mpr drag)]

theorem placeCrossOwner_placed (unstowed : s.pen.state ≠ .stowed) (idle : s.tracking.drag = none) :
    placeCrossOwner f s =
      accept { s with
        tracking := { s.tracking with placement := some (pointOf (fieldWord f 0)) } } := by
  rw [placeCrossOwner, if_neg unstowed, if_neg (by simp [idle])]
  rfl

/-- With one field word the length test is met, so the order reaches the Tracking Unit. -/
theorem exec_placeCross_takes (h : s.takesAtOnce (.placeCross tag [w])) :
    exec (.placeCross tag [w]) s = .next (takeOrder 0x09 tag true (placeCrossOwner [w]) s) :=
  exec_takes rfl rfl h

end PlaceCross

/-! ## The obligation -/

/-- Settles O47: the order is taken at once, and each row of R109 gives the answer that its REPLY carries. -/
theorem placeCrossTaken : Obligations.PlaceCrossTaken := by
  intro tag w s h
  have room : s.lane.queue.length < 32 := room_of_takes h rfl
  rw [exec_placeCross_takes h]
  congr 1
  split_ifs with stowed drag
  · exact takeOrder_plain room (placeCrossOwner_stowed (s := s.unarmed) stowed) rfl
  · exact takeOrder_plain room (placeCrossOwner_dragging (s := s.unarmed) stowed drag) rfl
  · exact takeOrder_plain room (placeCrossOwner_placed (s := s.unarmed) stowed (not_not.mp drag)) rfl

end Sys2Proof.Machine
end

section
/-! CLEAR FAULT (R130): the Overlay Generator's answer, row by row of the rule's table, and the order's
taking assembled from the rows. -/

namespace Sys2Proof.Machine

/-! ## The rows of R130 -/

section ClearFault
variable {f : List Word} {s : State}

theorem clearFaultOwner_inactive (inactive : s.overlay.faultActive = false) :
    clearFaultOwner f s = answer .ignored s := by
  rw [clearFaultOwner, inactive]
  rfl

theorem clearFaultOwner_cleared (active : s.overlay.faultActive = true)
    (serial : bits (fieldWord f 0) 7 0 = s.overlay.serial) :
    clearFaultOwner f s = accept { s with overlay := { s.overlay with faultActive := false } } := by
  rw [clearFaultOwner, active, if_pos serial]
  rfl

theorem clearFaultOwner_stale (active : s.overlay.faultActive = true)
    (serial : bits (fieldWord f 0) 7 0 ≠ s.overlay.serial) :
    clearFaultOwner f s = refuse .staleSerial s := by
  rw [clearFaultOwner, active, if_neg serial]
  rfl

end ClearFault

/-! ## The obligation -/

/-- The orders of Chapter 7's worked example, with fault 7 active: serial 6 is stale, serial 7 clears it. -/
theorem witness_clearFault_active :
    let s : State := { State.reset with
      overlay := { State.reset.overlay with faultActive := true, serial := 7 } }
    (s.takesAtOnce (.clearFault 0 [6]) ∧ bits (6 : Word) 7 0 ≠ s.overlay.serial) ∧
    (s.takesAtOnce (.clearFault 0 [7]) ∧ bits (7 : Word) 7 0 = s.overlay.serial) := by decide

/-- Settles O49: with its one word the order reaches the Overlay Generator at once, and each row of R130
gives the answer that its REPLY carries. -/
theorem clearFaultTaken : Obligations.ClearFaultTaken := by
  intro tag w s h
  have room : s.lane.queue.length < 32 := room_of_takes h rfl
  have taken : exec (.clearFault tag [w]) s =
      .next (takeOrder 0x0D tag true (clearFaultOwner [w]) s) := exec_takes rfl rfl h
  rw [taken]
  congr 1
  split_ifs with inactive serial
  · exact takeOrder_plain room (clearFaultOwner_inactive (s := s.unarmed) inactive) rfl
  · have active : s.overlay.faultActive = true := Bool.eq_true_of_not_eq_false inactive
    exact takeOrder_plain room (clearFaultOwner_cleared (f := [w]) (s := s.unarmed) active serial) rfl
  · have active : s.overlay.faultActive = true := Bool.eq_true_of_not_eq_false inactive
    exact takeOrder_plain room (clearFaultOwner_stale (f := [w]) (s := s.unarmed) active serial) rfl

end Sys2Proof.Machine
end

section
/-! LOAD ABORT (R147): the table a word names, the Load Controller's answer by the session record of that
table, and the order's taking, the same for both tables. -/

namespace Sys2Proof.Machine

/-! ## The table a word names -/

section Table
variable {w : Word}

theorem tableOf_layers (one : bits w 31 24 = 1) : tableOf w = some .layers := by
  simp only [tableOf, one]

theorem tableOf_menu (two : bits w 31 24 = 2) : tableOf w = some .menu := by
  simp only [tableOf, two]

theorem tableOf_unknown (not_one : bits w 31 24 ≠ 1) (not_two : bits w 31 24 ≠ 2) :
    tableOf w = none := by
  unfold tableOf
  split
  · contradiction
  · contradiction
  · rfl

end Table

/-! ## The Load Controller's answer -/

section LoadAbort
variable {tag : BitVec 8} {w : Word} {t : Table} {count sum : Nat} {map : List Nat} {s : State}

theorem loadAbortOwner_unknown (unknown : tableOf w = none) :
    loadAbortOwner [w] s = refuse .range s := by
  have field : tableOf (fieldWord [w] 0) = none := unknown
  rw [loadAbortOwner, field]

theorem loadAbortOwner_opened (named : tableOf w = some t)
    (opened : s.loads.get t = .opened count sum map) :
    loadAbortOwner [w] s = accept (setSession t .none s) := by
  have field : tableOf (fieldWord [w] 0) = some t := named
  simp only [loadAbortOwner, field, opened]

theorem loadAbortOwner_unopened (named : tableOf w = some t)
    (unopened : s.loads.get t = .none ∨ s.loads.get t = .swapPending) :
    loadAbortOwner [w] s = answer .ignored s := by
  have field : tableOf (fieldWord [w] 0) = some t := named
  obtain closed | pending := unopened
  · simp only [loadAbortOwner, field, closed]
  · simp only [loadAbortOwner, field, pending]

/-! ## The order's taking -/

/-- With one field word the length test is met, so the order reaches the Load Controller. -/
theorem exec_loadAbort_takes (h : s.takesAtOnce (.loadAbort tag [w])) :
    exec (.loadAbort tag [w]) s = .next (takeOrder 0x08 tag true (loadAbortOwner [w]) s) :=
  exec_takes rfl rfl h

theorem exec_loadAbort_unknown (h : s.takesAtOnce (.loadAbort tag [w])) (unknown : tableOf w = none) :
    exec (.loadAbort tag [w]) s = .next (s.replied tag 0x08 (.refused .range) .absent) := by
  rw [exec_loadAbort_takes h]
  exact congrArg _ (takeOrder_plain (room_of_takes h rfl) (loadAbortOwner_unknown unknown) rfl)

theorem exec_loadAbort_opened (h : s.takesAtOnce (.loadAbort tag [w])) (named : tableOf w = some t)
    (opened : s.loads.get t = .opened count sum map) :
    exec (.loadAbort tag [w]) s =
      .next { s.replied tag 0x08 .accepted .absent with loads := s.loads.put t .none } := by
  rw [exec_loadAbort_takes h]
  exact congrArg _ (takeOrder_plain (room_of_takes h rfl)
    (loadAbortOwner_opened (s := s.unarmed) named opened) rfl)

theorem exec_loadAbort_unopened (h : s.takesAtOnce (.loadAbort tag [w])) (named : tableOf w = some t)
    (unopened : s.loads.get t = .none ∨ s.loads.get t = .swapPending) :
    exec (.loadAbort tag [w]) s = .next (s.replied tag 0x08 .ignored .absent) := by
  rw [exec_loadAbort_takes h]
  exact congrArg _ (takeOrder_plain (room_of_takes h rfl)
    (loadAbortOwner_unopened (s := s.unarmed) named unopened) rfl)

end LoadAbort

/-! ## The obligation -/

/-- A LOAD ABORT of a table whose swap is scheduled, and one with no session open. -/
theorem witness_loadAbort_unopened :
    let s : State := { State.reset with loads := ⟨.swapPending, .none⟩ }
    (s.takesAtOnce (.loadAbort 0 [0x01000000]) ∧ bits (0x01000000 : Word) 31 24 = 1) ∧
    (s.takesAtOnce (.loadAbort 0 [0x02000000]) ∧ bits (0x02000000 : Word) 31 24 = 2) := by decide

/-- Settles O46: the word names a table or none, and the session record of the named table decides. -/
theorem loadAbortTaken : Obligations.LoadAbortTaken := by
  intro tag w s h
  refine ⟨fun not_one not_two => ?_, fun one => ?_, fun two => ?_⟩
  · exact exec_loadAbort_unknown h (tableOf_unknown not_one not_two)
  · have named := tableOf_layers one
    cases session : s.loads.layers with
    | opened count sum map => exact exec_loadAbort_opened h named session
    | none => exact exec_loadAbort_unopened h named (.inl session)
    | swapPending => exact exec_loadAbort_unopened h named (.inr session)
  · have named := tableOf_menu two
    cases session : s.loads.menu with
    | opened count sum map => exact exec_loadAbort_opened h named session
    | none => exact exec_loadAbort_unopened h named (.inl session)
    | swapPending => exact exec_loadAbort_unopened h named (.inr session)

end Sys2Proof.Machine
end

section
/-! MARK, STATUS, DESCRIBE and RESET ENABLE (R162 to R165): the orders without an owner of their own, whose
answers depend on no test, and the payloads of their REPLYs. -/

namespace Sys2Proof.Machine

/-! ## The payloads -/

theorem Tracking.suspended_eq_any (t : Tracking) : t.suspended = t.drag.any fun d => d.suspended := by
  unfold Tracking.suspended
  cases t.drag <;> rfl

theorem Tracking.releasePending_eq_any (t : Tracking) :
    t.releasePending = t.drag.any fun d => d.releasePending := by
  unfold Tracking.releasePending
  cases t.drag <;> rfl

/-- R163: the STATUS payload, with the two drag flags read from the drag record. -/
theorem statusData_eq (s : State) : statusData s =
    { penState := s.pen.state, holder := s.pen.holder, tip := s.pen.tip,
      dragActive := s.tracking.drag.isSome,
      suspended := s.tracking.drag.any fun d => d.suspended,
      releasePending := s.tracking.drag.any fun d => d.releasePending,
      overlayEnable := s.overlay.enable, faultActive := s.overlay.faultActive,
      serial := s.overlay.serial, layerSession := s.loads.layers.state,
      menuSession := s.loads.menu.state, occupancy := s.lane.queue.length,
      frame := s.decoder.frame, frameOpen := s.decoder.phase != .idle,
      outstanding := s.trail.outstanding, armed := s.orders.armed } := by
  rw [statusData, Tracking.suspended_eq_any, Tracking.releasePending_eq_any]
  rfl

/-- R164: no state enters the payload of DESCRIBE: the signature, the version and the six capacities. -/
theorem payloadWords_describe : payloadWords .describe =
    [0x5A373430, 0x01000006, 0x01000040, 0x02000018, 0x03000030, 0x04000010, 0x05000020,
      0x06000010] := by decide

/-! ## The takings -/

section Answering
variable {i : Instr} {code tag : BitVec 8} {w : Word} {p : Payload} {s : State}

/-- R156, R165: an order that does no more than answer leaves its REPLY in the queue and the arming clear. -/
theorem takeOrder_answering (room : s.lane.queue.length < 32) :
    takeOrder code tag true (fun u => { state := u, status := .accepted, payload := p }) s =
      s.replied tag code .accepted p :=
  takeOrder_plain (u := s.unarmed) room rfl rfl

theorem exec_answering (item : i.isStreamItem = true) (order : i.isOrder = true)
    (formed : i.wellFormed = true) (h : s.takesAtOnce i)
    (answers : take i (s.setPins (s.seenPins i)) =
      takeOrder code tag true (fun u => { state := u, status := .accepted, payload := p }) s) :
    exec i s = .next (s.replied tag code .accepted p) := by
  rw [exec_takes item formed h, answers, takeOrder_answering (room_of_takes h order)]

theorem exec_mark_takes (h : s.takesAtOnce (.mark tag [w])) :
    exec (.mark tag [w]) s = .next (s.replied tag 0x0E .accepted (.mark (bits w 15 0))) :=
  exec_answering rfl rfl rfl h rfl

/-- R163, R165: the payload is read before the taking clears the flag, so it shows the arming as it stood. -/
theorem exec_status_takes (h : s.takesAtOnce (.status tag [])) :
    exec (.status tag []) s = .next (s.replied tag 0x0F .accepted (.status (statusData s))) :=
  exec_answering rfl rfl rfl h rfl

theorem exec_describe_takes (h : s.takesAtOnce (.describe tag [])) :
    exec (.describe tag []) s = .next (s.replied tag 0x10 .accepted .describe) :=
  exec_answering rfl rfl rfl h rfl

/-- R165: the taking clears the flag and the order's own work sets it, whatever it was before. -/
theorem exec_resetEnable_takes (h : s.takesAtOnce (.resetEnable tag [])) :
    exec (.resetEnable tag []) s = .next { s.replied tag 0x11 .accepted .absent with
      orders := { s.orders with armed := true } } := by
  have taken : exec (.resetEnable tag []) s = .next (takeOrder 0x11 tag true
      (fun u => accept (u.setOrders { u.orders with armed := true })) s) := exec_takes rfl rfl h
  rw [taken, takeOrder_plain (u := s.setOrders { s.orders with armed := true })
    (room_of_takes h rfl) rfl rfl]
  rfl

end Answering

/-! ## The obligation -/

/-- A STATUS taken with the arming set and a suspended drag whose release is pending, with one place free. -/
theorem witness_status_armed_suspended :
    let s : State := { State.reset with
      orders := { armed := true, inHand := none },
      tracking := { State.reset.tracking with
        drag := some { origin := ⟨1, 2⟩, suspended := true, releasePending := true, resumeFrame := 0 } },
      lane := { State.reset.lane with
        queue := List.replicate 31 (.reply 0 0x10 0 false .accepted .describe) } }
    s.takesAtOnce (.status 0 []) ∧ (statusData s).armed = true ∧
      (statusData s).suspended = true ∧ (statusData s).releasePending = true := by decide

/-- Settles O50: each of the four orders is taken at once and its answer depends on no test. -/
theorem payloadOrdersTaken : Obligations.PayloadOrdersTaken := by
  intro tag s
  refine ⟨fun w => exec_mark_takes, fun h => ?status, exec_describe_takes, payloadWords_describe,
    exec_resetEnable_takes⟩
  case status => rw [← statusData_eq]; exact exec_status_takes h

end Sys2Proof.Machine
end

section
/-! The parts every taking and every completion is made of: what an item that nothing holds says of the
state (R17, R20), and the principle by which a property that the parts keep is kept by every taking
and every completion. -/

namespace Sys2Proof.Machine

/-! ## The causes of R20 -/

theorem windowOpen_iff {s : State} : s.windowOpen = true ↔ s.trail.outstanding < 16 :=
  decide_eq_true_iff

/-- R17: the items that the Decoder would issue, and the phases in which it would. -/
theorem wouldIssue_iff {i : Instr} {s : State} :
    wouldIssue i s = true ↔ i.isForwarded = true ∧
      (s.decoder.phase = .idle ∨ s.decoder.phase = .drawing ∧
        (∀ low p, i ≠ .frameStart low p) ∧ ∀ low, i ≠ .frameEnd low) := by
  unfold wouldIssue
  cases s.decoder.phase with
  | idle => simp
  | drawing => cases i <;> simp [Instr.isForwarded]
  | _ => simp

theorem isOrder_of_stall_free_overlay {i : Instr} {s : State} (free : stallCauses i s = [])
    (busy : s.decoder.phase = .overlay ∨ s.decoder.phase = .closing) : i.isOrder = true := by
  cases order : i.isOrder with
  | true => rfl
  | false => obtain phase | phase := busy <;> simp [stallCauses, order, phase] at free

theorem not_unclosing_of_stall_free {i : Instr} {s : State} (free : stallCauses i s = []) :
    s.decoder.phase ≠ .unclosing := by
  intro phase
  simp [stallCauses, phase] at free

theorem windowOpen_of_stall_free {i : Instr} {s : State} (free : stallCauses i s = [])
    (issues : wouldIssue i s = true) : s.windowOpen = true := by
  cases window : s.windowOpen with
  | true => rfl
  | false => simp [stallCauses, issues, window] at free

/-- An item that is no order and that nothing holds finds the Decoder in IDLE or in DRAWING. -/
theorem idle_or_drawing_of_stall_free {i : Instr} {s : State} (free : stallCauses i s = [])
    (item : i.isOrder = false) : s.decoder.phase = .idle ∨ s.decoder.phase = .drawing := by
  have no_order : i.isOrder ≠ true := Bool.eq_false_iff.mp item
  cases phase : s.decoder.phase with
  | idle => exact .inl rfl
  | drawing => exact .inr rfl
  | overlay => exact absurd (isOrder_of_stall_free_overlay free (.inl phase)) no_order
  | closing => exact absurd (isOrder_of_stall_free_overlay free (.inr phase)) no_order
  | unclosing => exact absurd phase (not_unclosing_of_stall_free free)

/-- Drawing and opaque items that nothing holds find the window open in either phase. -/
theorem windowOpen_of_drawn {i : Instr} {s : State} (free : stallCauses i s = [])
    (forwarded : i.isForwarded = true) (item : i.isOrder = false)
    (no_start : ∀ low p, i ≠ .frameStart low p) (no_end : ∀ low, i ≠ .frameEnd low) :
    s.windowOpen = true := by
  refine windowOpen_of_stall_free free (wouldIssue_iff.mpr ⟨forwarded, ?_⟩)
  obtain idle | drawing := idle_or_drawing_of_stall_free free item
  · exact .inl idle
  · exact .inr ⟨drawing, no_start, no_end⟩

/-! ## The items an issuer draws from the beam -/

/-- R4, R32: with the parameters in range and the beam on the screen, the item ends on the screen and has
a length if it is lit. -/
def State.Draws (s : State) (it : Item) : Prop :=
  s.banks.paramLaw = true → onScreen s.decoder.beam = true →
    onScreen it.stop = true ∧ (it.lit = true → 1 ≤ it.length)

section Draws
variable {s : State} {words : List Word} {dest : Point}

theorem Banks.paramLaw_iff {b : Banks} :
    b.paramLaw = true ↔ ∀ n, (paramLow n ≤ b.params.get n ∧ b.params.get n ≤ paramHigh n) ∧
      ∀ v, b.pendingParams.get n = some v → paramLow n ≤ v ∧ v ≤ paramHigh n := by
  have each : b.paramLaw = true ↔ ∀ n, (paramLow n ≤ b.params.get n ∧ b.params.get n ≤ paramHigh n) ∧
      ((b.pendingParams.get n).all fun v => paramLow n ≤ v && v ≤ paramHigh n) = true := by
    simp only [Banks.paramLaw, List.all_eq_true, Bool.and_eq_true, decide_eq_true_eq]
    exact ⟨fun h n => h n (by cases n <;> decide), fun h n _ => h n⟩
  simp only [each, Option.all_eq_true, Bool.and_eq_true, decide_eq_true_eq]

theorem Banks.param_range {b : Banks} (h : b.paramLaw = true) (n : ParamName) :
    paramLow n ≤ b.params.get n ∧ b.params.get n ≤ paramHigh n :=
  (Banks.paramLaw_iff.mp h n).1

theorem onScreen_iff {p : Point} : onScreen p = true ↔ p.x ≤ 4095 ∧ p.y ≤ 4095 := by
  simp [onScreen]

theorem bits_le {n : Nat} (w : BitVec n) (hi lo : Nat) : bits w hi lo ≤ 2 ^ (hi + 1 - lo) - 1 :=
  Nat.le_sub_one_of_lt (Nat.mod_lt _ (Nat.two_pow_pos _))

theorem moveItem_draws (dest_on : onScreen dest = true) :
    s.Draws (moveItem s.banks.params s.decoder.beam dest words) :=
  fun _ _ => ⟨dest_on, nofun⟩

/-- R32: a dot has DWELL, at least 1; any other stroke has the distance of two different points. -/
theorem strokeItem_draws (intensity : Nat) (dest_on : onScreen dest = true) :
    s.Draws (strokeItem s.banks.params s.decoder.beam dest intensity words) := by
  refine fun params _ => ⟨dest_on, fun _ => ?_⟩
  unfold strokeItem
  dsimp only
  split_ifs with dot
  · exact (Banks.param_range params .dwell).1
  · exact chebyshev_pos dot

theorem glyphItem_draws (size count : Nat) :
    s.Draws (glyphItem s.banks.params s.decoder.beam size count words) := by
  intro params beam
  have step : 8 ≤ s.banks.params.glyphStep := (Banks.param_range params .glyphStep).1
  unfold glyphItem
  split_ifs with fits
  · simp only [glyphInRange, Bool.and_eq_true, decide_eq_true_eq] at fits
    refine ⟨onScreen_iff.mpr ⟨Nat.min_le_right _ _, (onScreen_iff.mp beam).2⟩, fun _ => ?_⟩
    have count_pos : 0 < count := by omega
    have size_pos : 0 < size := by omega
    have step_pos : 0 < s.banks.params.glyphStep := by omega
    exact Nat.mul_pos (Nat.mul_pos count_pos step_pos) size_pos
  · exact ⟨beam, nofun⟩

theorem flatItem_draws (kind : Kind) : s.Draws (flatItem kind s.decoder.beam words) :=
  fun _ beam => ⟨beam, nofun⟩

end Draws

/-- R37: a number names the entry at the place it locates. -/
theorem Trail.named_eq_some_iff {t : Trail} {q n : Nat} {e : Entry} :
    t.named q = some (n, e) ↔ t.locate q = some n ∧ t.entries[n]? = some e := by
  unfold Trail.named
  cases t.locate q with
  | none => simp
  | some i =>
    simp only [Option.map_eq_some_iff, Prod.mk.injEq, Option.some.injEq]
    constructor
    · rintro ⟨x, at_i, rfl, rfl⟩
      exact ⟨rfl, at_i⟩
    · rintro ⟨rfl, at_i⟩
      exact ⟨e, at_i, rfl, rfl⟩

/-! ## Parts that keep a property -/

/-- What takings and completions are made of, as steps that keep `P`. -/
structure PartsKeep (P : State → Prop) : Prop where
  orders       : ∀ s v, P s → P (s.setOrders v)
  queue        : ∀ r s, P s → P (enqueue r s)
  lost         : ∀ s, P s → P (s.setLane { s.lane with lost := bump s.lane.lost })
  inBand       : ∀ t s, P s → P (performInBandReset t s)
  issue        : ∀ it o s, s.windowOpen = true → s.Draws it → P s → P (issue it o s)
  opens        : ∀ low s, s.decoder.phase = .idle → s.windowOpen = true → P s → P (openFrame low s)
  unclosing    : ∀ low s, s.decoder.phase = .drawing → P s →
    P (s.setDecoder { s.decoder with phase := .unclosing, inHand := some (.frameStart low) })
  overlay      : ∀ low s, s.decoder.phase = .drawing → P s →
    P ((s.setDecoder { s.decoder with phase := .overlay, inHand := some (.frameEnd low) }).setOverlay
      { s.overlay with emission := beginEmission s })
  held         : ∀ s, P s → P (issueHeldFrameEnd s)
  generated    : ∀ s, P s → P (issueGeneratedFrameEnd s)
  tagFaults    : ∀ k s, P s → P (tagFaults k s)
  tagOpen      : ∀ (entity : BitVec 16) layer s, P s →
    P (s.setTags (s.tags.openTag entity.toNat layer))
  tagClose     : ∀ s, P s → P (s.setTags s.tags.closeTag)
  setParameter : ∀ f s, P s → P (setParameterOwner f s).state
  setModes     : ∀ f s, P s → P (setModesOwner f s).state
  layerSet     : ∀ f s, P s → P (layerSetOwner f s).state
  buttonSet    : ∀ f s, P s → P (buttonSetOwner f s).state
  loadOpen     : ∀ f s, P s → P (loadOpenOwner f s).state
  loadSegment  : ∀ f s, P s → P (loadSegmentOwner f s).state
  loadClose    : ∀ f s, P s → P (loadCloseOwner f s).state
  loadAbort    : ∀ f s, P s → P (loadAbortOwner f s).state
  placeCross   : ∀ f s, P s → P (placeCrossOwner f s).state
  suspendDrag  : ∀ s, P s → P (suspendDragOwner s).state
  resumeDrag   : ∀ s, P s → P (resumeDragOwner s).state
  cancelDrag   : ∀ s, P s → P (cancelDragOwner s).state
  clearFault   : ∀ f s, P s → P (clearFaultOwner f s).state
  link         : ∀ c s, P s → P (raiseLink c s)
  retire       : ∀ n s, P s → P (s.setTrail (s.trail.complete n))
  normal       : ∀ s, s.decoder.phase = .closing → P s → P (closeNormal s)
  unclosed     : ∀ n e s, s.trail.entries[n]? = some e → e.completed = false →
    s.decoder.phase = .unclosing → P s → P (closeUnclosed (s.setTrail (s.trail.complete n)))

section PartsKeep
variable {P : State → Prop} (k : PartsKeep P)
include k

theorem PartsKeep.armed {s : State} (h : P s) : P (clearArmed s) := k.orders s _ h

theorem PartsKeep.enqueueBeforeReply {r : Report} {s : State} (h : P s) :
    P (enqueueBeforeReply s r) := by
  unfold Machine.enqueueBeforeReply
  split
  · exact k.queue r s h
  · exact k.lost s h

/-- An order's taking keeps what its owner keeps. -/
theorem PartsKeep.takeOrder {code tag : BitVec 8} {ok : Bool} {owner : State → Answer} {s : State}
    (owns : ∀ u, P u → P (owner u).state) (h : P s) : P (takeOrder code tag ok owner s) := by
  unfold Machine.takeOrder
  refine k.queue _ _ (List.foldlRecOn (motive := P) _ _ ?_ fun u hu _ _ => k.enqueueBeforeReply hu)
  split_ifs
  · exact owns _ (k.armed h)
  · exact k.armed h

theorem PartsKeep.takeAnswering {code tag : BitVec 8} {ok : Bool} {st : Status} {p : Payload}
    {s : State} (h : P s) :
    P (Machine.takeOrder code tag ok (fun u => { state := u, status := st, payload := p }) s) :=
  k.takeOrder (fun _ hu => hu) h

theorem PartsKeep.takeReset {tag : BitVec 8} {f : List Word} {s : State} (h : P s) :
    P (takeReset tag f s) := by
  unfold Machine.takeReset
  dsimp only
  split_ifs
  · exact k.takeOrder (fun _ hu => hu) h
  · exact k.inBand _ _ (k.orders _ _ h)
  · exact k.orders _ _ h
  · exact k.takeOrder (fun _ hu => hu) h

/-- In DRAWING a FRAME START is put in hand and its generated FRAME END may be issued (R14). -/
theorem PartsKeep.takeFrameStart {low : Low} {pins : Pins} {s : State}
    (free : stallCauses (.frameStart low pins) s = []) (h : P s) : P (takeFrameStart low s) := by
  obtain idle | drawing := idle_or_drawing_of_stall_free free rfl
  · have window := windowOpen_of_stall_free free (wouldIssue_iff.mpr ⟨rfl, .inl idle⟩)
    simp only [Machine.takeFrameStart, clearArmed_decoder, idle]
    exact k.opens low _ idle window (k.armed h)
  · simp only [Machine.takeFrameStart, clearArmed_decoder, drawing]
    exact k.generated _ (k.unclosing low _ drawing (k.tagFaults _ _ (k.armed h)))

/-- In DRAWING a FRAME END is put in hand, the emission is fixed, and the FRAME END may be issued (R10). -/
theorem PartsKeep.takeFrameEnd {low : Low} {s : State} (free : stallCauses (.frameEnd low) s = [])
    (h : P s) : P (takeFrameEnd low s) := by
  obtain idle | drawing := idle_or_drawing_of_stall_free free rfl
  · have window := windowOpen_of_stall_free free (wouldIssue_iff.mpr ⟨rfl, .inl idle⟩)
    simp only [Machine.takeFrameEnd, clearArmed_decoder, idle]
    exact k.issue _ _ _ window (flatItem_draws _) (k.armed h)
  · simp only [Machine.takeFrameEnd, clearArmed_decoder, drawing]
    exact k.held _ (k.overlay low _ drawing (k.tagFaults _ _ (k.armed h)))

theorem PartsKeep.takeTagOpen {layer : BitVec 8} {entity : BitVec 16} {s : State} (h : P s) :
    P (takeTagOpen layer entity s) := by
  unfold Machine.takeTagOpen
  dsimp only
  split_ifs
  · exact k.tagFaults _ _ (k.tagOpen _ _ _ (k.armed h))
  · exact k.armed h

theorem PartsKeep.takeTagClose {s : State} (h : P s) : P (takeTagClose s) := by
  unfold Machine.takeTagClose
  dsimp only
  split_ifs
  · exact k.tagFaults _ _ (k.tagClose _ (k.armed h))
  · exact k.armed h

/-- What the parts keep, the taking of every item that nothing holds keeps. -/
theorem PartsKeep.take {i : Instr} {s : State} (free : stallCauses i s = []) (h : P s) :
    P (take i s) := by
  cases i with
  | frameStart low pins => exact k.takeFrameStart free h
  | frameEnd low => exact k.takeFrameEnd free h
  | move x y =>
    exact k.issue _ _ _ (windowOpen_of_drawn free rfl rfl nofun nofun)
      (moveItem_draws (onScreen_iff.mpr ⟨Nat.le_of_lt_succ x.isLt, Nat.le_of_lt_succ y.isLt⟩)) (k.armed h)
  | stroke low point =>
    exact k.issue _ _ _ (windowOpen_of_drawn free rfl rfl nofun nofun)
      (strokeItem_draws _ (onScreen_iff.mpr ⟨bits_le point 27 16, bits_le point 11 0⟩)) (k.armed h)
  | glyphRun low codes =>
    exact k.issue _ _ _ (windowOpen_of_drawn free rfl rfl nofun nofun) (glyphItem_draws _ _) (k.armed h)
  | opaqueItem kind low rest =>
    exact k.issue _ _ _ (windowOpen_of_drawn free rfl rfl nofun nofun) (flatItem_draws _) (k.armed h)
  | tagOpen layer entity => exact k.takeTagOpen h
  | tagClose => exact k.takeTagClose h
  | setParameter tag f => exact k.takeOrder (k.setParameter f) h
  | setModes tag f => exact k.takeOrder (k.setModes f) h
  | layerSet tag f => exact k.takeOrder (k.layerSet f) h
  | buttonSet tag f => exact k.takeOrder (k.buttonSet f) h
  | loadOpen tag f => exact k.takeOrder (k.loadOpen f) h
  | loadSegment tag f => exact k.takeOrder (k.loadSegment f) h
  | loadClose tag f => exact k.takeOrder (k.loadClose f) h
  | loadAbort tag f => exact k.takeOrder (k.loadAbort f) h
  | placeCross tag f => exact k.takeOrder (k.placeCross f) h
  | suspendDrag tag f => exact k.takeOrder k.suspendDrag h
  | resumeDrag tag f => exact k.takeOrder k.resumeDrag h
  | cancelDrag tag f => exact k.takeOrder k.cancelDrag h
  | clearFault tag f => exact k.takeOrder (k.clearFault f) h
  | mark tag f => exact k.takeAnswering h
  | status tag f => exact k.takeAnswering h
  | describe tag f => exact k.takeAnswering h
  | resetEnable tag f =>
    exact k.takeOrder (owner := fun u => accept (u.setOrders { u.orders with armed := true }))
      (fun u hu => k.orders u _ hu) h
  | reset tag f => exact k.takeReset h
  | unknownOrder code tag f => exact k.takeOrder (fun _ hu => hu) h
  | _ => exact h

theorem PartsKeep.endDrain {s : State} (h : P s) : P (endDrain s) := by
  unfold Machine.endDrain
  split
  · split_ifs
    · exact k.inBand _ _ h
    · exact h
  · exact h

theorem PartsKeep.completeEffect {q : Nat} {s : State} (h : P s) : P (completeEffect q s) := by
  unfold Machine.completeEffect
  split
  · exact k.link _ _ h
  next n e named =>
    dsimp only
    split_ifs with done
    · exact k.link _ _ h
    · have entry := (Trail.named_eq_some_iff.mp named).2
      have retired := k.retire n s h
      unfold closeFrame
      split
      next phase => exact k.normal _ phase retired
      next phase => exact k.unclosed n e s entry (Bool.eq_false_iff.mpr done) phase h
      · exact retired
    · exact k.retire n s h

/-- What the parts keep, every completion notice keeps. -/
theorem PartsKeep.takeCompletion {q : Nat} {s : State} (h : P s) : P (takeCompletion q s) := by
  unfold Machine.takeCompletion
  split_ifs
  · exact k.endDrain (k.completeEffect h)
  · exact k.completeEffect h

end PartsKeep

end Sys2Proof.Machine
end

section
/-! The Trail (2.4): its law entry by entry, what an issue and a completion make of it, and the naming of
entries by their numbers (R34 to R37). -/

namespace Sys2Proof.Machine

/-! ## The law, entry by entry -/

/-- R17, R34 to R36: the law of the Trail, each entry at its place. -/
structure Trail.Lawful (t : Trail) : Prop where
  room     : t.entries.length ≤ 48
  next     : t.nextSeq < 256
  window   : t.outstanding ≤ 16
  counted  : t.outstanding ≤ t.entries.length
  numbered : ∀ n e, t.entries[n]? = some e → e.seq = (t.nextSeq + 256 - t.entries.length + n) % 256
  newest   : ∀ n e, t.entries[n]? = some e →
    (e.completed = false ↔ t.entries.length - t.outstanding ≤ n)

section Places
variable {α : Type} {l : List α} {k : Nat} {p : α → Bool}

theorem all_take_iff : (l.take k).all p = true ↔ ∀ n e, l[n]? = some e → n < k → p e = true := by
  simp only [List.all_eq_true, List.mem_iff_getElem?, List.getElem?_take]
  constructor
  · intro h n e at_n before
    exact h e ⟨n, by rw [if_pos before, at_n]⟩
  · rintro h e ⟨n, at_n⟩
    split_ifs at at_n with before
    exact h n e at_n before

theorem all_drop_iff : (l.drop k).all p = true ↔ ∀ n e, l[n]? = some e → k ≤ n → p e = true := by
  simp only [List.all_eq_true, List.mem_iff_getElem?, List.getElem?_drop]
  constructor
  · intro h n e at_n after
    exact h e ⟨n - k, by rw [Nat.add_sub_cancel' after, at_n]⟩
  · rintro h e ⟨n, at_n⟩
    exact h (k + n) e at_n (Nat.le_add_right k n)

end Places

theorem Trail.lawful_iff {t : Trail} : t.lawful = true ↔ t.Lawful := by
  have law : t.lawful = true ↔ t.entries.length ≤ 48 ∧ t.nextSeq < 256 ∧ t.outstanding ≤ 16 ∧
      t.outstanding ≤ t.entries.length ∧
      (∀ n e, t.entries[n]? = some e → e.seq = (t.nextSeq + 256 - t.entries.length + n) % 256) ∧
      (∀ n e, t.entries[n]? = some e → n < t.entries.length - t.outstanding → e.completed = true) ∧
      ∀ n e, t.entries[n]? = some e → t.entries.length - t.outstanding ≤ n → (!e.completed) = true := by
    rw [← all_take_iff, ← all_drop_iff]
    unfold Trail.lawful
    simp only [Bool.and_eq_true, decide_eq_true_eq, List.all_eq_true (l := t.entries.zipIdx),
      Prod.forall, List.mk_mem_zipIdx_iff_getElem?, beq_iff_eq, and_assoc]
    rw [forall_comm]
  rw [law]
  constructor
  · rintro ⟨room, next, window, counted, numbered, older, newer⟩
    refine ⟨room, next, window, counted, numbered, fun n e at_n => ⟨fun out => ?_, fun after => ?_⟩⟩
    · by_contra before
      rw [older n e at_n (by omega)] at out
      cases out
    · simpa using newer n e at_n after
  · rintro ⟨room, next, window, counted, numbered, newest⟩
    refine ⟨room, next, window, counted, numbered, fun n e at_n before => ?_, fun n e at_n after => ?_⟩
    · have not_out := mt (newest n e at_n).mp (by omega)
      simpa using not_out
    · simpa using (newest n e at_n).mpr after

/-- A test that holds from a place on, and only from there, keeps the list from that place on. -/
theorem filter_eq_drop {α : Type} {l : List α} {k : Nat} {p : α → Bool}
    (h : ∀ n e, l[n]? = some e → (p e = true ↔ k ≤ n)) : l.filter p = l.drop k := by
  have older : (l.take k).filter p = [] := by
    refine List.filter_eq_nil_iff.mpr fun e mem => ?_
    obtain ⟨n, at_n⟩ := List.mem_iff_getElem?.mp mem
    rw [List.getElem?_take] at at_n
    split_ifs at at_n with before
    exact mt (h n e at_n).mp (Nat.not_le.mpr before)
  have newer : (l.drop k).filter p = l.drop k := by
    refine List.filter_eq_self.mpr fun e mem => ?_
    obtain ⟨n, at_n⟩ := List.mem_iff_getElem?.mp mem
    rw [List.getElem?_drop] at at_n
    exact (h _ e at_n).mpr (Nat.le_add_right k n)
  calc l.filter p = ((l.take k) ++ (l.drop k)).filter p := by rw [List.take_append_drop]
    _ = l.drop k := by rw [List.filter_append, older, newer, List.nil_append]

section Lawful
variable {t : Trail} {e : Entry} {n q : Nat}

theorem lt_length_of_place {es : List Entry} (at_n : es[n]? = some e) : n < es.length :=
  (List.getElem?_eq_some_iff.mp at_n).1

/-- R34, R36: an issue below a full window keeps the law. -/
theorem Trail.Lawful.append (h : t.Lawful) (seq : e.seq = t.nextSeq) (out : e.completed = false)
    (open_ : t.outstanding < 16) : (t.append e).Lawful := by
  obtain ⟨room, next, window, counted, numbered, newest⟩ := h
  have length : (t.append e).entries.length = min (t.entries.length + 1) 48 := by
    simp only [Trail.append, List.length_drop, List.length_append, List.length_singleton,
      Config.trail]
    omega
  have place : ∀ n x, (t.append e).entries[n]? = some x →
      (t.entries[t.entries.length + 1 - 48 + n]? = some x ∧
        t.entries.length + 1 - 48 + n < t.entries.length) ∨
      x = e ∧ t.entries.length + 1 - 48 + n = t.entries.length := by
    intro n x at_n
    simp only [Trail.append, List.getElem?_drop, Config.trail] at at_n
    by_cases old : t.entries.length + 1 - 48 + n < t.entries.length
    · rw [List.getElem?_append_left old] at at_n
      exact .inl ⟨at_n, old⟩
    · rw [List.getElem?_append_right (by omega), List.getElem?_singleton] at at_n
      split_ifs at at_n with zero
      exact .inr ⟨(Option.some.inj at_n).symm, by omega⟩
  have next_eq : (t.append e).nextSeq = (t.nextSeq + 1) % 256 := rfl
  have count_eq : (t.append e).outstanding = t.outstanding + 1 := rfl
  refine ⟨by omega, by omega, by omega, by omega, fun n x at_n => ?_, fun n x at_n => ?_⟩
  · obtain ⟨old, before⟩ | ⟨rfl, last⟩ := place n x at_n
    · rw [numbered _ x old]
      omega
    · rw [seq]
      omega
  · obtain ⟨old, before⟩ | ⟨rfl, last⟩ := place n x at_n
    · rw [newest _ x old]
      omega
    · simp only [out, true_iff]
      omega

/-- A completion leaves completed exactly the entries up to its place and those that were (R35). -/
theorem Trail.Lawful.complete (h : t.Lawful) : (t.complete n).Lawful := by
  have run_length : (t.run n).length =
      min (n + 1) t.entries.length - (t.entries.length - t.outstanding) := by
    have run_eq : t.run n = (t.entries.take (n + 1)).drop (t.entries.length - t.outstanding) := by
      refine filter_eq_drop fun k e at_k => ?_
      rw [List.getElem?_take] at at_k
      split_ifs at at_k
      rw [← h.newest k e at_k, Bool.not_eq_true']
    rw [run_eq, List.length_drop, List.length_take]
  obtain ⟨room, next, window, counted, numbered, newest⟩ := h
  have count_eq : (t.complete n).outstanding = t.outstanding - (t.run n).length := rfl
  have next_eq : (t.complete n).nextSeq = t.nextSeq := rfl
  have length : (t.complete n).entries.length = t.entries.length := by
    rw [complete_eq]
    exact List.length_mapIdx
  have place : ∀ k x, (t.complete n).entries[k]? = some x →
      ∃ e, t.entries[k]? = some e ∧ x = if k ≤ n then { e with completed := true } else e := by
    intro k x at_k
    rw [complete_eq, Trail.retired, List.getElem?_mapIdx] at at_k
    obtain ⟨e, old, rfl⟩ := Option.map_eq_some_iff.mp at_k
    exact ⟨e, old, rfl⟩
  refine ⟨by omega, by omega, by omega, by omega, fun k x at_k => ?_, fun k x at_k => ?_⟩
  · obtain ⟨e, old, rfl⟩ := place k x at_k
    rw [length, next_eq, ← numbered k e old]
    split_ifs <;> rfl
  · obtain ⟨e, old, rfl⟩ := place k x at_k
    have inside := lt_length_of_place old
    have was := newest k e old
    split_ifs with covered
    · refine iff_of_false nofun ?_
      omega
    · rw [was]
      omega

/-- Something is outstanding where an entry is, so completing up to it opens the window. -/
theorem Trail.Lawful.complete_outstanding_lt (h : t.Lawful) (at_n : t.entries[n]? = some e)
    (out : e.completed = false) : (t.complete n).outstanding < 16 := by
  have mem : e ∈ t.run n := by
    refine List.mem_filter.mpr ⟨List.mem_of_getElem? (i := n) ?_, by rw [out]; rfl⟩
    rw [List.getElem?_take, if_pos (Nat.lt_succ_self n), at_n]
  have some_run : 0 < (t.run n).length := List.length_pos_of_mem mem
  have count_eq : (t.complete n).outstanding = t.outstanding - (t.run n).length := rfl
  have window := h.window
  omega

/-! ## Naming (R37) -/

/-- The place a number locates is its distance from the oldest entry's number, modulo 256. -/
theorem Trail.Lawful.locate_eq_some_iff (h : t.Lawful) :
    t.locate q = some n ↔ n < t.entries.length ∧
      n = (q + 256 - (t.nextSeq + 256 - t.entries.length) % 256) % 256 := by
  unfold Trail.locate
  cases entries : t.entries with
  | nil => simp
  | cons x es =>
    have oldest : x.seq = (t.nextSeq + 256 - (x :: es).length + 0) % 256 := by
      rw [← entries]
      exact h.numbered 0 x (by rw [entries]; rfl)
    rw [Nat.add_zero] at oldest
    dsimp only
    rw [← oldest]
    split_ifs with inside
    · simp only [Option.some.injEq]
      omega
    · refine iff_of_false nofun ?_
      omega

/-- The number of a place is located there. -/
theorem Trail.Lawful.locate_seq (h : t.Lawful) (at_n : t.entries[n]? = some e) :
    t.locate e.seq = some n := by
  have inside := lt_length_of_place at_n
  have room := h.room
  rw [h.locate_eq_some_iff, h.numbered n e at_n]
  exact ⟨inside, by omega⟩

/-- The number located at a place is that of the entry there. -/
theorem Trail.Lawful.seq_of_locate (h : t.Lawful) (small : q < 256) (located : t.locate q = some n)
    (at_n : t.entries[n]? = some e) : e.seq = q := by
  have place := h.locate_eq_some_iff.mp located
  have room := h.room
  rw [h.numbered n e at_n]
  omega

end Lawful

/-! ## The obligation -/

/-- Settles O26: the law entry by entry gives the number of each place and the place of each number. -/
theorem numbersNameEntries : Obligations.NumbersNameEntries := by
  intro t lawful
  have h := Trail.lawful_iff.mp lawful
  refine ⟨fun n e at_n => ?_, fun q n e small named => ?_, h.newest⟩
  · exact Trail.named_eq_some_iff.mpr ⟨h.locate_seq at_n, at_n⟩
  · obtain ⟨located, at_n⟩ := Trail.named_eq_some_iff.mp named
    exact ⟨at_n, h.seq_of_locate small located at_n⟩

end Sys2Proof.Machine
end

section
/-! The owners of the orders (Chapters 6 to 9): which part of which block each may change. -/

namespace Sys2Proof.Machine

variable (f : List Word) (s : State)

/-- SET PARAMETER changes one pending parameter, to a clamped value (R160). -/
theorem setParameterOwner_frame :
    (setParameterOwner f s).state = s ∨ ∃ n v, (setParameterOwner f s).state =
      s.setBanks { s.banks with pendingParams := s.banks.pendingParams.set n (some (paramClamp n v)) } := by
  unfold setParameterOwner
  dsimp only
  split
  · exact .inl rfl
  · exact .inr ⟨_, _, rfl⟩

theorem setModesOwner_frame :
    ∃ v, (setModesOwner f s).state = s.setBanks { s.banks with pendingModes := v } := by
  unfold setModesOwner
  split
  · exact ⟨_, rfl⟩
  · split_ifs <;> exact ⟨_, rfl⟩

theorem layerSetOwner_frame :
    ∃ v, (layerSetOwner f s).state = s.setBanks { s.banks with pendingLayers := v } := by
  unfold layerSetOwner
  dsimp only
  split_ifs <;> exact ⟨_, rfl⟩

/-- BUTTON SET leaves the state, or acts on a button of the live menu table; LATCH not on a MOMENTARY one
(R136, R137). -/
theorem buttonSetOwner_frame :
    (buttonSetOwner f s).state = s ∨ ∃ i b a, placeAt s.banks.menuLive i = some b ∧
      (a = .latch → b.kind ≠ .momentary) ∧ (buttonSetOwner f s).state =
        s.setBanks { s.banks with menuLive := applyAction s.banks.menuLive i b a } := by
  unfold buttonSetOwner
  dsimp only
  split_ifs
  · exact .inl rfl
  · split
    · exact .inl rfl
    next b present =>
      split_ifs with refused
      · exact .inl rfl
      · exact .inl rfl
      · exact .inr ⟨_, b, _, present, fun a m => refused ⟨a, m⟩, rfl⟩

/-- LOAD OPEN leaves the state, or opens a session over a cleared shadow bank (R142). -/
theorem loadOpenOwner_frame :
    (loadOpenOwner f s).state = s ∨ ∃ t count sum band, countInRange t count = true ∧ sum ≤ 65535 ∧
      (loadOpenOwner f s).state = setSession t (.opened count sum []) (clearShadow t band s) := by
  unfold loadOpenOwner
  dsimp only
  generalize (if f.length = 3 then some (bandOf (fieldWord f 1) (fieldWord f 2)) else none) = band
  split
  · exact .inl rfl
  next t _ =>
    split
    · exact .inl rfl
    · exact .inl rfl
    · split_ifs with outside bad
      · exact .inl rfl
      · exact .inl rfl
      · exact .inr ⟨t, _, _, _, by simpa using outside, bits_le (fieldWord f 0) 15 0, rfl⟩

/-- LOAD SEGMENT leaves the state, or writes a segment of an open session (R143, R144). -/
theorem loadSegmentOwner_frame :
    (loadSegmentOwner f s).state = s ∨ ∃ t count sum map first n b,
      s.loads.get t = .opened count sum map ∧ first + n ≤ count ∧
      writeSegment t s.banks first n f.tail = some b ∧
      (loadSegmentOwner f s).state =
        setSession t (.opened count sum (mapAdd map first n)) (s.setBanks b) := by
  unfold loadSegmentOwner
  dsimp only
  split
  · exact .inl rfl
  next t _ =>
    split
    next count sum map opened =>
      split_ifs with size inside
      · exact .inl rfl
      · exact .inl rfl
      · split
        · exact .inl rfl
        next b written =>
          exact .inr ⟨t, count, sum, map, _, _, b, opened, Nat.not_lt.mp inside, written, rfl⟩
    · exact .inl rfl

/-- LOAD CLOSE leaves the state, discards a session, or schedules the swap: of the menu table only
without two latched buttons in a radio group (R146). -/
theorem loadCloseOwner_frame :
    (loadCloseOwner f s).state = s ∨
    (∃ t, (loadCloseOwner f s).state = setSession t .none s) ∨
    ((loadCloseOwner f s).state = (setSession .layers .swapPending s).setBanks
      { s.banks with pendingLayers := Vector.replicate 64 none }) ∨
    (radioConflict s.banks.menuShadow = false ∧
      (loadCloseOwner f s).state = setSession .menu .swapPending s) := by
  unfold loadCloseOwner
  split
  · exact .inl rfl
  next t _ =>
    split
    · split_ifs with incomplete sum conflict
      · exact .inl rfl
      · exact .inr (.inl ⟨t, rfl⟩)
      · exact .inl rfl
      · cases t with
        | layers => exact .inr (.inr (.inl rfl))
        | menu => exact .inr (.inr (.inr ⟨by simpa using conflict, rfl⟩))
    · exact .inl rfl

theorem loadAbortOwner_frame :
    (loadAbortOwner f s).state = s ∨ ∃ t, (loadAbortOwner f s).state = setSession t .none s := by
  unfold loadAbortOwner
  split
  · exact .inl rfl
  next t _ =>
    split
    · exact .inr ⟨t, rfl⟩
    · exact .inl rfl

theorem placeCrossOwner_frame :
    ∃ v, (placeCrossOwner f s).state = s.setTracking { s.tracking with placement := v } := by
  unfold placeCrossOwner
  split_ifs <;> exact ⟨_, rfl⟩

/-- SUSPEND DRAG leaves the state, or suspends the drag (R116). -/
theorem suspendDragOwner_frame :
    (suspendDragOwner s).state = s ∨ ∃ d, s.tracking.drag = some d ∧
      (suspendDragOwner s).state =
        s.setTracking { s.tracking with drag := some { d with suspended := true } } := by
  unfold suspendDragOwner
  split
  · exact .inl rfl
  next d active =>
    split_ifs
    · exact .inl rfl
    · exact .inl rfl
    · exact .inr ⟨d, active, rfl⟩

/-- RESUME DRAG leaves the state, ends the drag, or resumes it with the loss count at 0 (R118). -/
theorem resumeDragOwner_frame :
    (resumeDragOwner s).state = s ∨
    (resumeDragOwner s).state = s.setTracking { s.tracking with drag := none } ∨
    ∃ d, s.tracking.drag = some d ∧ d.releasePending = false ∧ (resumeDragOwner s).state =
      (s.setTracking { s.tracking with
        drag := some { d with suspended := false, resumeFrame := s.decoder.frame } }).setPen
          { s.pen with loss := 0 } := by
  unfold resumeDragOwner
  split
  · exact .inl rfl
  next d active =>
    split_ifs with running pending
    · exact .inl rfl
    · exact .inr (.inl rfl)
    · exact .inr (.inr ⟨d, active, Bool.eq_false_iff.mpr pending, rfl⟩)

theorem cancelDragOwner_frame :
    (cancelDragOwner s).state = s ∨
    (cancelDragOwner s).state = s.setTracking { s.tracking with drag := none } := by
  unfold cancelDragOwner
  split
  · exact .inl rfl
  · exact .inr rfl

theorem clearFaultOwner_frame :
    ∃ v, (clearFaultOwner f s).state = s.setOverlay { s.overlay with faultActive := v } := by
  unfold clearFaultOwner
  split_ifs <;> exact ⟨_, rfl⟩

/-- The passing of a report's first word changes the Return Lane (R172 to R175). -/
theorem passFirstWord_frame : ∃ v, passFirstWord s = s.setLane v := by
  unfold passFirstWord queueOverflow
  dsimp only
  split
  · exact ⟨_, rfl⟩
  · exact ⟨_, rfl⟩
  · split_ifs <;> exact ⟨_, rfl⟩
  · exact ⟨s.lane, rfl⟩

/-- A written segment leaves every bank but the table's shadow (R144). -/
theorem writeSegment_frame {t : Table} {b v : Banks} {first n : Nat} {es : List Word}
    (h : writeSegment t b first n es = some v) :
    (t = .layers ∧ v = { b with layersShadow := writeFrom b.layersShadow first (es.map layerEntryOf) }) ∨
    ∃ ps, t = .menu ∧ placesOf es n = some ps ∧ v = { b with
      menuShadow := { b.menuShadow with places := writeFrom b.menuShadow.places first ps } } := by
  cases t with
  | layers =>
    unfold writeSegment at h
    dsimp only at h
    split_ifs at h
    cases h
    exact .inl ⟨rfl, rfl⟩
  | menu =>
    obtain ⟨ps, places, rfl⟩ := Option.map_eq_some_iff.mp h
    exact .inr ⟨ps, rfl, places, rfl⟩

end Sys2Proof.Machine
end

section
/-! The Trail and the phase (1.4, 2.4): the agreement of the phase with the item in hand, the emission and
the frame number, and what every operation keeps of it and of the Trail's law. -/

namespace Sys2Proof.Machine

/-- 1.4, R9: the item in hand is the one the phase says, an emission is in progress only in OVERLAY, and
an open frame has a number. -/
structure PhaseAgrees (phase : Phase) (hand : Option HandItem) (emission : Emission) (frame : Nat) :
    Prop where
  overlay   : phase = .overlay ↔ ∃ low, hand = some (.frameEnd low)
  unclosing : phase = .unclosing ↔ ∃ low, hand = some (.frameStart low)
  emitting  : emission.emitting = true → phase = .overlay
  bounded   : frame ≤ 65535
  numbered  : phase ≠ .idle → 1 ≤ frame

theorem State.phaseLaw_iff {s : State} : s.phaseLaw = true ↔
    PhaseAgrees s.decoder.phase s.decoder.inHand s.overlay.emission s.decoder.frame := by
  have hand : s.handLawful = true ↔
      (s.decoder.phase = .overlay ↔ ∃ low, s.decoder.inHand = some (.frameEnd low)) ∧
      (s.decoder.phase = .unclosing ↔ ∃ low, s.decoder.inHand = some (.frameStart low)) ∧
      (s.overlay.emission.emitting = true → s.decoder.phase = .overlay) := by
    unfold State.handLawful
    cases s.decoder.phase <;> rcases s.decoder.inHand with _ | low | low <;> simp
  have frame : s.frameLaw = true ↔
      s.decoder.frame ≤ 65535 ∧ (s.decoder.phase ≠ .idle → 1 ≤ s.decoder.frame) := by
    unfold State.frameLaw State.frameOpen
    cases s.decoder.phase <;> simp
  unfold State.phaseLaw
  rw [Bool.and_eq_true, hand, frame]
  exact ⟨fun ⟨⟨a, b, c⟩, d, e⟩ => ⟨a, b, c, d, e⟩, fun ⟨a, b, c, d, e⟩ => ⟨⟨a, b, c⟩, d, e⟩⟩

/-- The Trail's law and the agreement of the phase. -/
def State.Framed (s : State) : Prop :=
  s.trail.Lawful ∧
  PhaseAgrees s.decoder.phase s.decoder.inHand s.overlay.emission s.decoder.frame

theorem State.Framed.trail {s : State} (h : s.Framed) : s.trail.Lawful := h.1

theorem State.Framed.phase {s : State} (h : s.Framed) :
    PhaseAgrees s.decoder.phase s.decoder.inHand s.overlay.emission s.decoder.frame := h.2

theorem nextFrame_range {n : Nat} (h : n ≤ 65535) : 1 ≤ nextFrame n ∧ nextFrame n ≤ 65535 := by
  unfold nextFrame
  split_ifs <;> omega

section Framed
variable {s : State}

theorem State.Framed.issue (h : s.Framed) (window : s.windowOpen = true) (it : Item) (o : Origin) :
    (issue it o s).Framed :=
  ⟨h.trail.append rfl rfl (windowOpen_iff.mp window), h.phase⟩

/-- Out of OVERLAY nothing is in emission. -/
theorem State.Framed.emission_idle (h : s.Framed) (out : s.decoder.phase ≠ .overlay) :
    s.overlay.emission.emitting = false :=
  Bool.eq_false_iff.mpr (mt h.phase.emitting out)

/-- An open leaves DRAWING with nothing in hand and the next frame number (R9). -/
theorem openFrame_framed {low : Low} (trail : s.trail.Lawful) (frame : s.decoder.frame ≤ 65535)
    (quiet : s.overlay.emission.emitting = false) (window : s.trail.outstanding < 16) :
    (openFrame low s).Framed := by
  obtain ⟨low_end, high_end⟩ := nextFrame_range frame
  have not_emitting : s.overlay.emission.emitting ≠ true := Bool.eq_false_iff.mp quiet
  refine ⟨trail.append rfl rfl window, ?_⟩
  exact ⟨by simp [openFrame, Machine.issue, Decoder.openWork], by simp [openFrame, Machine.issue, Decoder.openWork],
    fun emits => absurd emits not_emitting, high_end, fun _ => low_end⟩

theorem State.Framed.unclosing (h : s.Framed) (low : Low) (drawing : s.decoder.phase = .drawing) :
    (s.setDecoder { s.decoder with
      phase := .unclosing, inHand := some (.frameStart low) }).Framed := by
  have quiet := h.emission_idle (by simp [drawing])
  have numbered := h.phase.numbered (by simp [drawing])
  exact ⟨h.trail, by simp, by simp, by simp [quiet], h.phase.bounded, fun _ => numbered⟩

theorem State.Framed.handed (h : s.Framed) (low : Low) (em : Emission)
    (drawing : s.decoder.phase = .drawing) :
    ((s.setDecoder { s.decoder with phase := .overlay, inHand := some (.frameEnd low) }).setOverlay
      { s.overlay with emission := em }).Framed := by
  have numbered := h.phase.numbered (by simp [drawing])
  exact ⟨h.trail, by simp, by simp, by simp, h.phase.bounded, fun _ => numbered⟩

/-- R11: the FRAME END in hand is issued into CLOSING, once the emission has ended and the window allows. -/
theorem State.Framed.issueHeldFrameEnd (h : s.Framed) : (issueHeldFrameEnd s).Framed := by
  unfold Machine.issueHeldFrameEnd
  split
  · split_ifs with due
    · simp only [State.frameEndWaits, Bool.and_eq_true, beq_iff_eq, Bool.not_eq_true'] at due
      obtain ⟨⟨overlay, quiet⟩, window⟩ := due
      have numbered := h.phase.numbered (by simp [overlay])
      exact ⟨(h.issue window _ _).trail, by simp, by simp, by simp [quiet], h.phase.bounded, fun _ => numbered⟩
    · exact h
  · exact h

theorem State.Framed.issueGeneratedFrameEnd (h : s.Framed) :
    (issueGeneratedFrameEnd s).Framed := by
  unfold Machine.issueGeneratedFrameEnd
  split_ifs with due
  · exact h.issue due.2.2 _ _
  · exact h

theorem State.Framed.raiseLink (h : s.Framed) (c : LinkCause) : (raiseLink c s).Framed := by
  unfold Machine.raiseLink
  split_ifs <;> exact h

/-- R13: a normal close leaves IDLE with nothing in hand. -/
theorem State.Framed.closeNormal (h : s.Framed) (closing : s.decoder.phase = .closing) :
    (closeNormal s).Framed := by
  have quiet := h.emission_idle (by simp [closing])
  have empty : s.decoder.inHand = none := by
    have no_end := mt h.phase.overlay.mpr (by simp [closing])
    have no_start := mt h.phase.unclosing.mpr (by simp [closing])
    rcases hand : s.decoder.inHand with _ | low | low
    · rfl
    · exact absurd ⟨low, hand⟩ no_end
    · exact absurd ⟨low, hand⟩ no_start
  exact ⟨h.trail, by simp [Machine.closeNormal, enqueueBlocks, empty], by simp [Machine.closeNormal, enqueueBlocks, empty],
    by simp [quiet], h.phase.bounded, fun out => absurd rfl out⟩

/-- R15: an unclosed close opens the next frame, the window open by the entries it completed. -/
theorem State.Framed.closeUnclosed (h : s.Framed) (unclosing : s.decoder.phase = .unclosing)
    (window : s.trail.outstanding < 16) : (closeUnclosed s).Framed := by
  have quiet := h.emission_idle (by simp [unclosing])
  obtain ⟨low, hand⟩ := h.phase.unclosing.mp unclosing
  unfold Machine.closeUnclosed
  simp only [hand]
  exact openFrame_framed h.trail h.phase.bounded quiet window

theorem State.Framed.overlayIssue (h : s.Framed) : (overlayIssue s).Framed := by
  unfold Machine.overlayIssue
  split
  · exact h
  next it o item =>
    dsimp only
    split_ifs with window
    · have emits : s.overlay.emission.emitting = true := by
        cases emission : s.overlay.emission with
        | idle => rw [emission] at item; cases item
        | _ => rfl
      have issued := h.issue window it o
      refine State.Framed.issueHeldFrameEnd ⟨issued.trail, ?_⟩
      exact { issued.phase with emitting := fun _ => h.phase.emitting emits }
    · exact h

theorem State.Framed.syncEffect (h : s.Framed) : (syncEffect s).Framed := by
  unfold Machine.syncEffect
  split_ifs
  · refine State.Framed.issueHeldFrameEnd ⟨h.trail, ?_⟩
    exact { h.phase with emitting := nofun }
  · exact h

/-- The reset values keep both laws (R22, R41). -/
theorem resetBlocks_framed (s : State) : (resetBlocks s).Framed :=
  ⟨Trail.lawful_iff.mp rfl, State.phaseLaw_iff.mp rfl⟩

end Framed

/-- The operations that leave the Trail, the phase, the hand and the emission keep both laws as they are;
the others by the lemmas above. -/
theorem framed_parts : PartsKeep State.Framed where
  orders _ _ h := h
  queue _ _ h := h
  lost _ h := h
  inBand _ s _ := resetBlocks_framed s
  issue it o s window _ h := h.issue window it o
  opens low s idle window h := openFrame_framed h.trail h.phase.bounded
    (h.emission_idle (by simp [idle])) (windowOpen_iff.mp window)
  unclosing low s drawing h := h.unclosing low drawing
  overlay low s drawing h := h.handed low _ drawing
  held _ h := h.issueHeldFrameEnd
  generated _ h := h.issueGeneratedFrameEnd
  tagFaults _ _ h := h
  tagOpen _ _ _ h := h
  tagClose _ h := h
  setParameter f s h := by
    obtain e | ⟨_, _, e⟩ := setParameterOwner_frame f s <;> rw [e] <;> exact h
  setModes f s h := by obtain ⟨_, e⟩ := setModesOwner_frame f s; rw [e]; exact h
  layerSet f s h := by obtain ⟨_, e⟩ := layerSetOwner_frame f s; rw [e]; exact h
  buttonSet f s h := by
    obtain e | ⟨_, _, _, _, _, e⟩ := buttonSetOwner_frame f s <;> rw [e] <;> exact h
  loadOpen f s h := by
    obtain e | ⟨t, _, _, _, _, _, e⟩ := loadOpenOwner_frame f s
    · rw [e]; exact h
    · rw [e]; cases t <;> exact h
  loadSegment f s h := by
    obtain e | ⟨_, _, _, _, _, _, _, _, _, _, e⟩ := loadSegmentOwner_frame f s <;> rw [e] <;>
      exact h
  loadClose f s h := by
    obtain e | ⟨_, e⟩ | e | ⟨_, e⟩ := loadCloseOwner_frame f s <;> rw [e] <;> exact h
  loadAbort f s h := by
    obtain e | ⟨_, e⟩ := loadAbortOwner_frame f s <;> rw [e] <;> exact h
  placeCross f s h := by obtain ⟨_, e⟩ := placeCrossOwner_frame f s; rw [e]; exact h
  suspendDrag s h := by
    obtain e | ⟨_, _, e⟩ := suspendDragOwner_frame s <;> rw [e] <;> exact h
  resumeDrag s h := by
    obtain e | e | ⟨_, _, _, e⟩ := resumeDragOwner_frame s <;> rw [e] <;> exact h
  cancelDrag s h := by
    obtain e | e := cancelDragOwner_frame s <;> rw [e] <;> exact h
  clearFault f s h := by obtain ⟨_, e⟩ := clearFaultOwner_frame f s; rw [e]; exact h
  link c _ h := h.raiseLink c
  retire _ _ h := ⟨h.trail.complete, h.phase⟩
  normal _ closing h := h.closeNormal closing
  unclosed _ _ s at_n out unclosing h :=
    State.Framed.closeUnclosed (s := s.setTrail _) ⟨h.trail.complete, h.phase⟩ unclosing
      (h.trail.complete_outstanding_lt at_n out)

theorem framed_keeps : Keeps State.Framed where
  pins _ _ h := h
  resetLow _ _ h := h
  portLine _ _ h := h
  low _ _ h := h
  pending _ _ h := h
  take _ _ free h := framed_parts.take free h
  complete _ _ h := framed_parts.takeCompletion h
  hit q e s h := by
    unfold State.Framed
    rw [hitEffect_trail, hitEffect_decoder, hitEffect_overlay]
    exact h
  link c _ h := h.raiseLink c
  held _ h := h.issueHeldFrameEnd
  generated _ h := h.issueGeneratedFrameEnd
  overlay _ h := h.overlayIssue
  sync _ h := h.syncEffect
  reset s _ := resetBlocks_framed s
  inBand _ s _ := resetBlocks_framed s
  pass s h := by
    obtain ⟨l, e⟩ := passFirstWord_frame s
    rw [e]
    exact h
  idle _ _ _ h := h
  backlog _ h := h

/-- Settles O56: every operation keeps the Trail's law entry by entry and the agreement of the phase. -/
theorem stepKeepsTrailAndPhase : Obligations.StepKeepsTrailAndPhase := by
  intro s t trail phase stepped
  have kept := framed_keeps.step ⟨Trail.lawful_iff.mp trail, State.phaseLaw_iff.mp phase⟩ stepped
  exact ⟨Trail.lawful_iff.mpr kept.trail, State.phaseLaw_iff.mpr kept.phase⟩

end Sys2Proof.Machine
end

section
/-! The Pen Monitor at a frame open (5.1, 5.2): the debounced lines, the pen state by the holder's change
and by a placement, and the counts. -/

namespace Sys2Proof.Machine

/-! ## The debounced lines (R86, R87) -/

/-- R87: the debounced HOLDER after the levels of an open. -/
def Pen.holderNext (p : Pen) (pins : Pins) : Holder :=
  if holderLevel pins = p.rawHolder then holderLevel pins else p.holder

/-- R87: the debounced TIP after the levels of an open. -/
def Pen.tipNext (p : Pen) (pins : Pins) : Tip :=
  if tipLevel pins = p.rawTip then tipLevel pins else p.tip

/-- R89: the pen went into its holder at this open. -/
abbrev Pen.Stows (p : Pen) (pins : Pins) : Prop := p.holder = .outside ∧ p.holderNext pins = .inside

/-- R90: the pen left its holder at this open. -/
abbrev Pen.Lifts (p : Pen) (pins : Pins) : Prop := p.holder = .inside ∧ p.holderNext pins = .outside

/-- R89, R90: the pen state by the holder's change. -/
def Pen.stateByHolder (p : Pen) (pins : Pins) : PenState :=
  if p.Stows pins then .stowed else if p.Lifts pins then .lifted else p.state

/-- R91, R110: a pending placement is applied at this open. -/
abbrev Pen.Places (p : Pen) (pins : Pins) (placement : Bool) : Prop :=
  placement = true ∧ p.stateByHolder pins ≠ .stowed

section Open
variable {p : Pen} {pins : Pins} {placement : Bool}

@[simp] theorem Pen.sample_holder : (p.sample pins).holder = p.holderNext pins := rfl
@[simp] theorem Pen.sample_tip : (p.sample pins).tip = p.tipNext pins := rfl

@[simp] theorem Pen.openWork_change :
    (p.openWork pins placement).change = lineChange p (p.sample pins) := rfl

theorem toInside_iff : (lineChange p (p.sample pins)).toInside = true ↔ p.Stows pins := by
  simp [lineChange]

theorem toOutside_iff : (lineChange p (p.sample pins)).toOutside = true ↔ p.Lifts pins := by
  simp [lineChange]

theorem toDown_iff : (lineChange p (p.sample pins)).toDown = true ↔
    p.tip = .up ∧ p.tipNext pins = .down := by
  simp [lineChange]

theorem toUp_iff : (lineChange p (p.sample pins)).toUp = true ↔
    p.tip = .down ∧ p.tipNext pins = .up := by
  simp [lineChange]

/-! ## The pen state and its counts (R89 to R91, R110) -/

theorem Pen.byHolder_eq : (p.sample pins).byHolder (lineChange p (p.sample pins)) =
    { p.sample pins with
      state := p.stateByHolder pins,
      seen := if p.Stows pins then 0 else p.seen,
      loss := if p.Stows pins then 0 else p.loss } := by
  unfold Pen.byHolder Pen.stateByHolder
  simp only [toInside_iff, toOutside_iff]
  split_ifs <;> rfl

@[simp] theorem Pen.openWork_unplaced :
    (p.openWork pins placement).unplaced = p.stateByHolder pins := by
  unfold Pen.openWork
  dsimp only
  rw [Pen.byHolder_eq]

theorem Pen.openWork_placed_iff :
    (p.openWork pins placement).placed = true ↔ p.Places pins placement := by
  unfold Pen.openWork
  dsimp only
  rw [Pen.byHolder_eq]
  simp

/-- The pen after an open: the lines as sampled and debounced, the state by the holder and the placement,
the counts 0 where one of them set the state but by a lift. -/
theorem Pen.openWork_pen : (p.openWork pins placement).pen =
    { rawHolder := holderLevel pins, rawTip := tipLevel pins,
      holder := p.holderNext pins, tip := p.tipNext pins,
      state := if p.Places pins placement then .tracking else p.stateByHolder pins,
      seen := if p.Stows pins ∨ p.Places pins placement then 0 else p.seen,
      loss := if p.Stows pins ∨ p.Places pins placement then 0 else p.loss } := by
  have placed := Pen.openWork_placed_iff (p := p) (pins := pins) (placement := placement)
  have pen : (p.openWork pins placement).pen =
      if (p.openWork pins placement).placed = true then
        ((p.sample pins).byHolder (lineChange p (p.sample pins))).placed
      else (p.sample pins).byHolder (lineChange p (p.sample pins)) := rfl
  rw [pen, Pen.byHolder_eq]
  simp only [placed]
  by_cases places : p.Places pins placement
  · simp only [if_pos places, if_pos (Or.inr places)]
    rfl
  · simp only [if_neg places, or_iff_left places]
    rfl

end Open

/-! ## What the pen and the drag agree on (5.2, R111) -/

/-- 5.1, 5.2: STOWED is the debounced HOLDER at IN, and each count is in range in its state and 0 out of
it. -/
structure Pen.Sound (p : Pen) : Prop where
  stowed   : p.state = .stowed ↔ p.holder = .inside
  seen     : p.state = .seen → 1 ≤ p.seen ∧ p.seen ≤ 6
  unseen   : p.state ≠ .seen → p.seen = 0
  loss     : p.state = .tracking → p.loss ≤ 14
  lossless : p.state ≠ .tracking → p.loss = 0

/-- R111: a drag is active only in TRACKING, and its release is pending only while it is suspended. -/
def DragSound (state : PenState) (drag : Option Drag) : Prop :=
  ∀ d, drag = some d → state = .tracking ∧ (d.releasePending = true → d.suspended = true)

theorem State.penLaw_iff {s : State} :
    s.penLaw = true ↔ s.banks.paramLaw = true ∧ s.pen.Sound ∧ DragSound s.pen.state s.tracking.drag := by
  have pen : (s.pen.stowedLaw && s.pen.countLaw) = true ↔ s.pen.Sound := by
    have parts : s.pen.Sound ↔ (s.pen.state = .stowed ↔ s.pen.holder = .inside) ∧
        (s.pen.state = .seen → 1 ≤ s.pen.seen ∧ s.pen.seen ≤ 6) ∧
        (s.pen.state ≠ .seen → s.pen.seen = 0) ∧
        (s.pen.state = .tracking → s.pen.loss ≤ 14) ∧ (s.pen.state ≠ .tracking → s.pen.loss = 0) :=
      ⟨fun ⟨a, b, c, d, e⟩ => ⟨a, b, c, d, e⟩, fun ⟨a, b, c, d, e⟩ => ⟨a, b, c, d, e⟩⟩
    rw [parts, Bool.and_eq_true, Pen.stowedLaw, beq_iff_eq, Bool.eq_iff_iff, beq_iff_eq, beq_iff_eq,
      Pen.countLaw]
    cases s.pen.state <;> simp
  have drag : s.dragLaw = true ↔ DragSound s.pen.state s.tracking.drag := by
    unfold State.dragLaw DragSound
    cases s.tracking.drag with
    | none => simp
    | some d =>
      simp only [Bool.and_eq_true, beq_iff_eq, Option.some.injEq, forall_eq']
      cases d.releasePending <;> simp
  unfold State.penLaw
  rw [Bool.and_eq_true, drag, Bool.and_assoc, Bool.and_eq_true, pen, and_assoc]

/-! ## The parameters (R151, R160) -/

theorem PerParam.apply_get (p : PerParam Nat) (q : PerParam (Option Nat)) (n : ParamName) :
    (p.apply q).get n = (q.get n).getD (p.get n) := by
  cases n <;> rfl

theorem PerParam.all_get {α : Type} (a : α) (n : ParamName) : (PerParam.all a).get n = a := by
  cases n <;> rfl

theorem PerParam.set_get {α : Type} (p : PerParam α) (n m : ParamName) (v : α) :
    (p.set n v).get m = if m = n then v else p.get m := by
  cases n <;> cases m <;> rfl

theorem paramClamp_range (n : ParamName) (v : Nat) :
    paramLow n ≤ paramClamp n v ∧ paramClamp n v ≤ paramHigh n := by
  have order : paramLow n ≤ paramHigh n := by cases n <;> decide
  unfold paramClamp
  omega

/-- At an open what is pending comes into force, and it is in range (R151). -/
theorem Banks.openWork_paramLaw {b : Banks} {l : Loads} (h : b.paramLaw = true) :
    (b.openWork l).paramLaw = true := by
  refine Banks.paramLaw_iff.mpr fun n => ⟨?_, fun v pending => ?_⟩
  · have value : (b.openWork l).params.get n = (b.pendingParams.get n).getD (b.params.get n) :=
      PerParam.apply_get _ _ n
    obtain ⟨live, pending⟩ := Banks.paramLaw_iff.mp h n
    rw [value]
    cases e : b.pendingParams.get n with
    | none => exact live
    | some v => exact pending v e
  · have none_pending : (b.openWork l).pendingParams.get n = none := PerParam.all_get none n
    rw [none_pending] at pending
    cases pending

theorem Banks.setParameter_paramLaw {b : Banks} (h : b.paramLaw = true) (n : ParamName) (v : Nat) :
    Banks.paramLaw { b with pendingParams := b.pendingParams.set n (some (paramClamp n v)) } = true := by
  refine Banks.paramLaw_iff.mpr fun m => ?_
  obtain ⟨live, pending⟩ := Banks.paramLaw_iff.mp h m
  refine ⟨live, fun x e => ?_⟩
  dsimp only at e
  rw [PerParam.set_get] at e
  split_ifs at e with same
  · cases e
    rw [same]
    exact paramClamp_range n v
  · exact pending x e

/-! ## The open -/

section Open
variable {p : Pen} {drag : Option Drag}

/-- Out of its holder the pen keeps its state; a lift finds it STOWED, with both counts 0. -/
theorem Pen.Sound.byHolder (h : p.Sound) (pins : Pins) :
    ((p.sample pins).byHolder (lineChange p (p.sample pins))).Sound := by
  obtain ⟨stowed, seen, unseen, loss, lossless⟩ := h
  unfold Pen.byHolder
  simp only [toInside_iff, toOutside_iff]
  split_ifs with stows lifts
  · exact ⟨iff_of_true rfl stows.2, nofun, fun _ => rfl, nofun, fun _ => rfl⟩
  · have was : p.state = .stowed := stowed.mpr lifts.1
    refine ⟨iff_of_false nofun ?_, nofun, fun _ => unseen (by simp [was]), nofun,
      fun _ => lossless (by simp [was])⟩
    rw [Pen.sample_holder, lifts.2]
    nofun
  · have same : p.holderNext pins = p.holder := by
      unfold Pen.Stows at stows
      unfold Pen.Lifts at lifts
      cases before : p.holder <;> cases after : p.holderNext pins <;> simp_all
    refine ⟨?_, seen, unseen, loss, lossless⟩
    rw [Pen.sample_holder, same]
    exact stowed

theorem Pen.Sound.placed (h : p.Sound) (out : p.state ≠ .stowed) : p.placed.Sound :=
  ⟨iff_of_false nofun (mt h.stowed.mpr out), nofun, fun _ => rfl, fun _ => Nat.zero_le _,
    fun _ => rfl⟩

theorem Pen.Sound.openWork (h : p.Sound) (pins : Pins) (placement : Bool) :
    (p.openWork pins placement).pen.Sound := by
  have held := h.byHolder pins
  unfold Pen.openWork
  dsimp only
  split_ifs with places
  · simp only [Bool.and_eq_true, bne_iff_ne] at places
    exact held.placed places.2
  · exact held

/-- A drag that was active finds the pen STOWED or still in TRACKING, since it was out of its holder. -/
theorem DragSound.openWork_state (pen : p.Sound) (h : DragSound p.state drag) (pins : Pins)
    (placement : Bool) {d : Drag} (active : drag = some d) :
    (p.openWork pins placement).pen.state = .stowed ∨
      (p.openWork pins placement).pen.state = .tracking := by
  have tracking := (h d active).1
  have out : ¬p.Lifts pins := fun lifts => by
    rw [pen.stowed.mpr lifts.1] at tracking
    cases tracking
  rw [Pen.openWork_pen]
  dsimp only
  split_ifs
  · exact .inr rfl
  · unfold Pen.stateByHolder
    rw [if_neg out]
    split_ifs
    · exact .inl rfl
    · exact .inr tracking

/-- R105: the drag that an open leaves is the one that was active, not STOWED, or one started in TRACKING. -/
theorem DragSound.dragAtOpen (pen : p.Sound) (h : DragSound p.state drag) (pins : Pins)
    (placement request : Bool) (frame : Nat) (c : Point) :
    DragSound (p.openWork pins placement).pen.state
      (dragAtOpen (p.openWork pins placement) request frame c drag).drag := by
  intro d e
  unfold Machine.dragAtOpen at e
  split at e
  next _ was =>
    have state := h.openWork_state pen pins placement rfl
    have release := (h was rfl).2
    split_ifs at e with stowed _ suspended
    · cases e
      exact ⟨state.resolve_left stowed, fun _ => suspended⟩
    · cases e
      exact ⟨state.resolve_left stowed, release⟩
  · split_ifs at e with starts
    simp only [Bool.and_eq_true, beq_iff_eq] at starts
    cases e
    exact ⟨starts.1.1.2, nofun⟩

end Open

/-! ## What every operation keeps -/

/-- The parameters in range, and the laws of the pen and the drag. -/
def State.Penned (s : State) : Prop :=
  s.banks.paramLaw = true ∧ s.pen.Sound ∧ DragSound s.pen.state s.tracking.drag

section Penned
variable {s : State}

theorem State.Penned.openFrame (h : s.Penned) (low : Low) : (openFrame low s).Penned :=
  ⟨Banks.openWork_paramLaw h.1, h.2.1.openWork _ _, h.2.2.dragAtOpen h.2.1 _ _ _ _ _⟩

theorem State.Penned.closeUnclosed (h : s.Penned) : (closeUnclosed s).Penned := by
  unfold Machine.closeUnclosed
  dsimp only
  split
  next low _ => exact State.Penned.openFrame (s := { s with .. }) h low
  · exact h

/-- R94, R95: the SEEN count stays below SEEN FRAMES, which is at most 7. -/
theorem penSighted_sound {n : Nat} (h : s.pen.Sound) (params : s.banks.paramLaw = true)
    (out : s.pen.state ≠ .stowed) (untracked : s.pen.state ≠ .tracking) (some_seen : 1 ≤ n) :
    (penSighted s n).pen.Sound := by
  have limit : s.banks.params.seenFrames ≤ 7 := (Banks.param_range params .seenFrames).2
  unfold penSighted
  split_ifs
  · exact h.placed out
  · exact ⟨iff_of_false nofun (mt h.stowed.mpr out), fun _ => ⟨some_seen, by dsimp only; omega⟩, nofun,
      nofun, fun _ => h.lossless untracked⟩

theorem trackLost_iff : trackLost s = true ↔ s.pen.state = .tracking ∧ s.corr.hasCross = false ∧
    s.tracking.suspended = false ∧ s.banks.params.lossFrames ≤ s.pen.loss + 1 := by
  simp only [trackLost, Bool.and_eq_true, beq_iff_eq, Bool.not_eq_true', decide_eq_true_eq, and_assoc]

/-- R93 to R97: the counts of a close stay below SEEN FRAMES and LOSS FRAMES. -/
theorem penAtClose_sound (h : s.pen.Sound) (params : s.banks.paramLaw = true) :
    (penAtClose s).pen.Sound := by
  have limit : s.banks.params.lossFrames ≤ 15 := (Banks.param_range params .lossFrames).2
  unfold penAtClose
  split
  · exact h
  next state =>
    split_ifs
    · exact penSighted_sound h params (by simp [state]) (by simp [state]) le_rfl
    · exact h
  next state =>
    split_ifs
    · exact penSighted_sound h params (by simp [state]) (by simp [state]) (Nat.le_add_left 1 _)
    · exact ⟨iff_of_false nofun (mt h.stowed.mpr (by simp [state])), nofun, fun _ => rfl, nofun,
        fun _ => h.lossless (by simp [state])⟩
  next state =>
    have out : s.pen.holder ≠ .inside := mt h.stowed.mpr (by simp [state])
    have unseen := h.unseen (by simp [state])
    have stays := iff_of_false (by simp [state] : s.pen.state ≠ .stowed) out
    split_ifs with cross suspended lost
    · exact ⟨stays, by simp [state], fun _ => unseen, fun _ => Nat.zero_le _, fun _ => rfl⟩
    · exact h
    · exact ⟨iff_of_false nofun out, nofun, fun _ => rfl, nofun, fun _ => rfl⟩
    · have below : s.pen.loss + 1 < s.banks.params.lossFrames := by
        have not_lost := mt trackLost_iff.mpr lost
        simp_all
      refine ⟨stays, by simp [state], fun _ => unseen, fun _ => by dsimp only; omega, by simp [state]⟩

/-- R96, R114: the pen leaves TRACKING at a close only by the loss that ends the drag. -/
theorem penAtClose_tracking (tracking : s.pen.state = .tracking) (kept : ¬trackLost s = true) :
    (penAtClose s).pen.state = .tracking := by
  unfold penAtClose
  simp only [tracking]
  split_ifs <;> simp [tracking]

theorem dragAtClose_sound (h : DragSound s.pen.state s.tracking.drag) :
    DragSound (penAtClose s).pen.state (dragAtClose s).drag := by
  intro d e
  unfold dragAtClose at e
  split at e
  · cases e
  next was active =>
    split_ifs at e with lost
    cases e
    obtain ⟨tracking, release⟩ := h _ active
    exact ⟨penAtClose_tracking tracking lost, release⟩

theorem State.Penned.closeNormal (h : s.Penned) : (closeNormal s).Penned :=
  ⟨h.1, penAtClose_sound h.2.1 h.1, dragAtClose_sound h.2.2⟩

theorem State.Penned.raiseLink (h : s.Penned) (c : LinkCause) : (raiseLink c s).Penned := by
  unfold State.Penned
  rw [raiseLink_banks, raiseLink_pen, raiseLink_tracking]
  exact h

theorem State.Penned.issueHeldFrameEnd (h : s.Penned) : (issueHeldFrameEnd s).Penned := by
  unfold State.Penned
  rw [issueHeldFrameEnd_banks, issueHeldFrameEnd_pen, issueHeldFrameEnd_tracking]
  exact h

theorem State.Penned.issueGeneratedFrameEnd (h : s.Penned) : (issueGeneratedFrameEnd s).Penned := by
  unfold State.Penned
  rw [issueGeneratedFrameEnd_banks, issueGeneratedFrameEnd_pen, issueGeneratedFrameEnd_tracking]
  exact h

/-- A drag that an order changes stays in TRACKING (R116, R118). -/
theorem DragSound.change {state : PenState} {drag : Option Drag} {d e : Drag}
    (h : DragSound state drag) (active : drag = some d)
    (release : e.releasePending = true → e.suspended = true) : DragSound state (some e) := by
  rintro _ ⟨⟩
  exact ⟨(h d active).1, release⟩

theorem dragSound_none (state : PenState) : DragSound state none := nofun

/-- The loss count at 0 is in range in every state. -/
theorem Pen.Sound.clearLoss {p : Pen} (h : p.Sound) : Pen.Sound { p with loss := 0 } :=
  ⟨h.stowed, h.seen, h.unseen, fun _ => Nat.zero_le _, fun _ => rfl⟩

/-- The reset values keep the laws (R101, R120, R154). -/
theorem resetBlocks_penned (s : State) : (resetBlocks s).Penned := State.penLaw_iff.mp rfl

end Penned

theorem penned_parts : PartsKeep State.Penned where
  orders _ _ h := h
  queue _ _ h := h
  lost _ h := h
  inBand _ s _ := resetBlocks_penned s
  issue _ _ _ _ _ h := h
  opens low _ _ _ h := h.openFrame low
  unclosing _ _ _ h := h
  overlay _ _ _ h := h
  held _ h := h.issueHeldFrameEnd
  generated _ h := h.issueGeneratedFrameEnd
  tagFaults _ _ h := h
  tagOpen _ _ _ h := h
  tagClose _ h := h
  setParameter f s h := by
    obtain e | ⟨n, v, e⟩ := setParameterOwner_frame f s
    · rw [e]; exact h
    · rw [e]; exact ⟨Banks.setParameter_paramLaw h.1 n v, h.2⟩
  setModes f s h := by obtain ⟨_, e⟩ := setModesOwner_frame f s; rw [e]; exact h
  layerSet f s h := by obtain ⟨_, e⟩ := layerSetOwner_frame f s; rw [e]; exact h
  buttonSet f s h := by
    obtain e | ⟨_, _, _, _, _, e⟩ := buttonSetOwner_frame f s <;> rw [e] <;> exact h
  loadOpen f s h := by
    obtain e | ⟨t, _, _, _, _, _, e⟩ := loadOpenOwner_frame f s
    · rw [e]; exact h
    · rw [e]; cases t <;> exact h
  loadSegment f s h := by
    obtain e | ⟨_, _, _, _, _, _, _, _, _, w, e⟩ := loadSegmentOwner_frame f s
    · rw [e]; exact h
    · obtain ⟨_, rfl⟩ | ⟨_, _, _, rfl⟩ := writeSegment_frame w <;> rw [e] <;> exact h
  loadClose f s h := by
    obtain e | ⟨_, e⟩ | e | ⟨_, e⟩ := loadCloseOwner_frame f s <;> rw [e] <;> exact h
  loadAbort f s h := by obtain e | ⟨_, e⟩ := loadAbortOwner_frame f s <;> rw [e] <;> exact h
  placeCross f s h := by obtain ⟨_, e⟩ := placeCrossOwner_frame f s; rw [e]; exact h
  suspendDrag s h := by
    obtain e | ⟨d, active, e⟩ := suspendDragOwner_frame s
    · rw [e]; exact h
    · rw [e]; exact ⟨h.1, h.2.1, h.2.2.change active fun _ => rfl⟩
  resumeDrag s h := by
    obtain e | e | ⟨d, active, released, e⟩ := resumeDragOwner_frame s
    · rw [e]; exact h
    · rw [e]; exact ⟨h.1, h.2.1, dragSound_none _⟩
    · rw [e]; exact ⟨h.1, h.2.1.clearLoss, h.2.2.change active (by simp [released])⟩
  cancelDrag s h := by
    obtain e | e := cancelDragOwner_frame s
    · rw [e]; exact h
    · rw [e]; exact ⟨h.1, h.2.1, dragSound_none _⟩
  clearFault f s h := by obtain ⟨_, e⟩ := clearFaultOwner_frame f s; rw [e]; exact h
  link c _ h := h.raiseLink c
  retire _ _ h := h
  normal _ _ h := h.closeNormal
  unclosed _ _ s _ _ _ h := State.Penned.closeUnclosed (s := s.setTrail _) h

theorem penned_keeps : Keeps State.Penned where
  pins _ _ h := h
  resetLow _ _ h := h
  portLine _ _ h := h
  low _ _ h := h
  pending _ _ h := h
  take _ _ free h := penned_parts.take free h
  complete _ _ h := penned_parts.takeCompletion h
  hit q e s h := by
    unfold State.Penned
    rw [hitEffect_banks, hitEffect_pen, hitEffect_tracking]
    exact h
  link c _ h := h.raiseLink c
  held _ h := h.issueHeldFrameEnd
  generated _ h := h.issueGeneratedFrameEnd
  overlay s h := by
    unfold State.Penned
    rw [overlayIssue_banks, overlayIssue_pen, overlayIssue_tracking]
    exact h
  sync s h := by
    unfold State.Penned
    rw [syncEffect_banks, syncEffect_pen, syncEffect_tracking]
    exact h
  reset s _ := resetBlocks_penned s
  inBand _ s _ := resetBlocks_penned s
  pass s h := by
    obtain ⟨l, e⟩ := passFirstWord_frame s
    rw [e]
    exact h
  idle _ _ _ h := h
  backlog _ h := h

/-- Settles O57: the open and the close move the pen and the drag within their laws, and so do the orders
that change a parameter or the drag. -/
theorem stepKeepsPenAndDrag : Obligations.StepKeepsPenAndDrag := by
  intro s t law stepped
  exact State.penLaw_iff.mpr (penned_keeps.step (State.penLaw_iff.mp law) stepped)

end Sys2Proof.Machine
end

section
/-! The menu table (7.1): its places after a change, the next present place, the rules every button keeps,
and the radio groups (R122, R126, R134, R136). -/

namespace Sys2Proof.Machine

/-! ## Places -/

section Places
variable {t : MenuTable} {i j : Nat} {b c : Button}

theorem placeAt_eq_some_iff : placeAt t i = some b ↔ t.places[i]? = some (some b) := by
  unfold placeAt
  rcases t.places[i]? with _ | _ | c <;> simp

theorem placeAt_lt (present : placeAt t i = some b) : i < 24 :=
  (Vector.getElem?_eq_some_iff.mp (placeAt_eq_some_iff.mp present)).1

theorem places_getElem? (inside : i < 24) : t.places[i]? = some (placeAt t i) := by
  unfold placeAt
  rw [Vector.getElem?_eq_getElem inside]
  rfl

theorem placeAt_changeButton (f : Button → Button) :
    placeAt (changeButton t i f) j = if j = i then (placeAt t i).map f else placeAt t j := by
  unfold changeButton placeAt
  rw [Vector.getElem?_setIfInBounds]
  by_cases same : i = j
  · subst same
    rw [if_pos rfl, if_pos rfl]
    split_ifs with inside
    · rfl
    · rw [Vector.getElem?_eq_none (Nat.not_lt.mp inside)]
      rfl
  · rw [if_neg same, if_neg (Ne.symm same)]

theorem placeAt_latch :
    placeAt (latch t i b) j = (placeAt t j).map fun c =>
      if j = i then { c with latched := true }
      else if b.kind = .radio ∧ latchedOther t i b j then { c with latched := false }
      else c := by
  unfold latch
  simp only [placeAt, Vector.getElem?_mapIdx]
  rcases t.places[j]? with _ | _ | c <;> rfl

theorem latchedOther_iff : latchedOther t i b j = true ↔
    ∃ c, placeAt t j = some c ∧ j ≠ i ∧ c.kind = .radio ∧ c.group = b.group ∧ c.latched = true := by
  unfold latchedOther
  cases placeAt t j with
  | none => simp
  | some c => simp [and_assoc]

/-! ## The next present place (R126) -/

/-- The emission position at `i` is the first place from `i` on that holds a button. -/
theorem reach_present (after : i ≤ j) (present : placeAt t j = some b)
    (absent : ∀ k, i ≤ k → k < j → placeAt t k = none) : reach t i = .button j b 0 := by
  have inside := placeAt_lt present
  have parts : List.range 24 = List.range j ++ j :: (List.range' (j + 1) (24 - (j + 1))) := by
    have joined := List.range'_append_1 (s := 0) (m := j) (n := 24 - (j + 1) + 1)
    rw [Nat.zero_add] at joined
    rw [List.range_eq_range', List.range_eq_range', ← List.range'_succ, joined]
    congr 1
    omega
  have first : ((List.range 24).filter (fun k => i ≤ k)).findSome?
      (fun k => (placeAt t k).map fun b => (k, b)) = some (j, b) := by
    rw [parts, List.filter_append, List.filter_cons_of_pos (by simpa using after), List.findSome?_append,
      List.findSome?_cons, present]
    have none_before : ((List.range j).filter (fun k => i ≤ k)).findSome?
        (fun k => (placeAt t k).map fun b => (k, b)) = none := by
      refine List.findSome?_eq_none_iff.mpr fun k mem => ?_
      simp only [List.mem_filter, List.mem_range, decide_eq_true_eq] at mem
      rw [absent k mem.2 mem.1]
      rfl
    rw [none_before]
    rfl
  unfold reach
  rw [first]

theorem reach_absent (absent : ∀ k, k < 24 → i ≤ k → placeAt t k = none) : reach t i = .idle := by
  have none_left : ((List.range 24).filter (fun k => i ≤ k)).findSome?
      (fun k => (placeAt t k).map fun b => (k, b)) = none := by
    refine List.findSome?_eq_none_iff.mpr fun k mem => ?_
    simp only [List.mem_filter, List.mem_range, decide_eq_true_eq] at mem
    rw [absent k mem.1 mem.2]
    rfl
  unfold reach
  rw [none_left]

/-- The position reached is past the last button, or at a place whose button is copied. -/
theorem reach_cases : reach t i = .idle ∨ ∃ j b, placeAt t j = some b ∧ reach t i = .button j b 0 := by
  by_cases absent : ∀ k, k < 24 → i ≤ k → placeAt t k = none
  · exact .inl (reach_absent absent)
  · push Not at absent
    have some_present : ∃ k, i ≤ k ∧ placeAt t k ≠ none := by
      obtain ⟨k, _, after, present⟩ := absent
      exact ⟨k, after, present⟩
    classical
    obtain ⟨after, present⟩ := Nat.find_spec some_present
    obtain ⟨b, present⟩ := Option.ne_none_iff_exists'.mp present
    refine .inr ⟨_, b, present, reach_present after present fun k after_k before => ?_⟩
    by_contra held
    exact Nat.find_min some_present before ⟨after_k, held⟩

end Places

/-! ## The rules of the buttons (R122, R143) -/

section Valid
variable {t : MenuTable} {i : Nat} {b : Button}

theorem MenuTable.buttonsValid_iff :
    t.buttonsValid = true ↔ ∀ i b, placeAt t i = some b → b.valid = true := by
  unfold MenuTable.buttonsValid
  rw [List.all_eq_true]
  constructor
  · intro h i b present
    have mem := Vector.mem_of_getElem? (placeAt_eq_some_iff.mp present)
    exact h _ (Vector.mem_toList_iff.mpr mem)
  · intro h p mem
    obtain ⟨i, inside, at_i⟩ := Vector.getElem_of_mem (Vector.mem_toList_iff.mp mem)
    cases p with
    | none => rfl
    | some b => exact h i b (placeAt_eq_some_iff.mpr (Vector.getElem?_eq_some_iff.mpr ⟨inside, at_i⟩))

/-- A change that leaves every button at its place, or changed to one within the rules, keeps them. -/
theorem buttonsValid_of_places {u : MenuTable} (h : t.buttonsValid = true)
    (places : ∀ j c, placeAt u j = some c → c.valid = true ∨ placeAt t j = some c) :
    u.buttonsValid = true := by
  rw [MenuTable.buttonsValid_iff] at h ⊢
  exact fun j c present => (places j c present).elim id (h j c)

/-- A button's rules bind its latch only if it is MOMENTARY, and its enabled flag not at all. -/
theorem Button.valid_relatched {x : Bool} (h : b.valid = true)
    (allowed : x = true → b.kind ≠ .momentary) : Button.valid { b with latched := x } = true := by
  unfold Button.valid at h ⊢
  simp only [Bool.and_eq_true, Bool.not_eq_true', Bool.and_eq_false_iff, beq_eq_false_iff_ne] at h ⊢
  cases x with
  | false => simp_all
  | true => simp_all

theorem changeButton_valid {f : Button → Button} (h : t.buttonsValid = true)
    (changed : ∀ c, placeAt t i = some c → c.valid = true → (f c).valid = true) :
    (changeButton t i f).buttonsValid = true := by
  refine buttonsValid_of_places h fun j c present => ?_
  rw [placeAt_changeButton] at present
  split_ifs at present with same
  · obtain ⟨d, at_i, rfl⟩ := Option.map_eq_some_iff.mp present
    exact .inl (changed d at_i (MenuTable.buttonsValid_iff.mp h i d at_i))
  · exact .inr present

theorem latch_valid (h : t.buttonsValid = true) (present : placeAt t i = some b)
    (kind : b.kind ≠ .momentary) : (latch t i b).buttonsValid = true := by
  refine buttonsValid_of_places h fun j c latched => ?_
  rw [placeAt_latch] at latched
  obtain ⟨d, at_j, rfl⟩ := Option.map_eq_some_iff.mp latched
  have valid := MenuTable.buttonsValid_iff.mp h j d at_j
  split_ifs with same
  · rw [same, present] at at_j
    cases at_j
    exact .inl (Button.valid_relatched valid fun _ => kind)
  · exact .inl (Button.valid_relatched valid nofun)
  · exact .inl valid

theorem applyAction_valid {a : ButtonAction} (h : t.buttonsValid = true)
    (present : placeAt t i = some b) (kind : a = .latch → b.kind ≠ .momentary) :
    (applyAction t i b a).buttonsValid = true := by
  cases a with
  | enable => exact changeButton_valid h fun c _ valid => valid
  | disable => exact changeButton_valid h fun c _ valid => valid
  | latch => exact latch_valid h present (kind rfl)
  | unlatch => exact changeButton_valid h fun c _ valid => Button.valid_relatched valid nofun

theorem menuAction_valid (h : t.buttonsValid = true) (present : placeAt t i = some b) :
    (menuAction t i b).buttonsValid = true := by
  unfold menuAction
  split
  · exact h
  next kind =>
    refine changeButton_valid h fun c at_i valid => Button.valid_relatched valid fun _ => ?_
    rw [present] at at_i
    cases at_i
    simp [kind]
  next kind => exact latch_valid h present (by simp [kind])

end Valid

/-! ## Radio groups (R122, R134, R136) -/

/-- R122: no two places hold latched RADIO buttons of one group. -/
def RadioFree (t : MenuTable) : Prop :=
  ∀ i j a b, placeAt t i = some a → placeAt t j = some b → i ≠ j → a.kind = .radio →
    b.kind = .radio → a.group = b.group → a.latched = true → b.latched = true → False

section Radio
variable {t u : MenuTable} {i : Nat} {b : Button}

theorem radioConflict_iff : radioConflict t = true ↔
    ∃ i j a b, placeAt t i = some a ∧ placeAt t j = some b ∧ i ≠ j ∧ a.kind = .radio ∧
      b.kind = .radio ∧ a.group = b.group ∧ a.latched = true ∧ b.latched = true := by
  simp only [radioConflict, List.any_eq_true, List.mem_range]
  constructor
  · rintro ⟨i, -, conflict⟩
    split at conflict
    next a at_i =>
      simp only [Bool.and_eq_true, beq_iff_eq, List.any_eq_true, List.mem_range, latchedOther_iff]
        at conflict
      obtain ⟨⟨kind_a, on_a⟩, j, -, b, at_j, apart, kind_b, group, on_b⟩ := conflict
      exact ⟨i, j, a, b, at_i, at_j, apart.symm, kind_a, kind_b, group.symm, on_a, on_b⟩
    · cases conflict
  · rintro ⟨i, j, a, b, at_i, at_j, apart, kind_a, kind_b, group, on_a, on_b⟩
    refine ⟨i, placeAt_lt at_i, ?_⟩
    rw [at_i]
    simp only [Bool.and_eq_true, beq_iff_eq, List.any_eq_true, List.mem_range, latchedOther_iff]
    exact ⟨⟨kind_a, on_a⟩, j, placeAt_lt at_j, b, at_j, apart.symm, kind_b, group.symm, on_b⟩

theorem radioFree_iff : RadioFree t ↔ radioConflict t = false := by
  rw [← Bool.not_eq_true, radioConflict_iff]
  constructor
  · rintro free ⟨i, j, a, b, at_i, at_j, apart, kind_a, kind_b, group, on_a, on_b⟩
    exact free i j a b at_i at_j apart kind_a kind_b group on_a on_b
  · intro none i j a b at_i at_j apart kind_a kind_b group on_a on_b
    exact none ⟨i, j, a, b, at_i, at_j, apart, kind_a, kind_b, group, on_a, on_b⟩

/-- A table whose latched RADIO buttons were latched in their groups before has no new conflict. -/
theorem RadioFree.of_latched (h : RadioFree t)
    (was : ∀ j c, placeAt u j = some c → c.kind = .radio → c.latched = true →
      ∃ d, placeAt t j = some d ∧ d.kind = .radio ∧ d.group = c.group ∧ d.latched = true) :
    RadioFree u := by
  intro i j a b at_i at_j apart kind_a kind_b group on_a on_b
  obtain ⟨a', was_i, kind_a', group_a, on_a'⟩ := was i a at_i kind_a on_a
  obtain ⟨b', was_j, kind_b', group_b, on_b'⟩ := was j b at_j kind_b on_b
  exact h i j a' b' was_i was_j apart kind_a' kind_b' (by rw [group_a, group_b, group]) on_a' on_b'

theorem RadioFree.changeButton {f : Button → Button} (h : RadioFree t)
    (was : ∀ c, placeAt t i = some c → (f c).kind = .radio → (f c).latched = true →
      c.kind = .radio ∧ c.group = (f c).group ∧ c.latched = true) :
    RadioFree (changeButton t i f) := by
  refine h.of_latched fun j c present kind on => ?_
  rw [placeAt_changeButton] at present
  split_ifs at present with same
  · obtain ⟨d, at_i, rfl⟩ := Option.map_eq_some_iff.mp present
    rw [same]
    exact ⟨d, at_i, was d at_i kind on⟩
  · exact ⟨c, present, kind, rfl, on⟩

/-- R134, R136: a RADIO button latched unlatches its group, and any other button is in none. -/
theorem RadioFree.latch (h : RadioFree t) (present : placeAt t i = some b) : RadioFree (latch t i b) := by
  have place : ∀ j c, placeAt (Machine.latch t i b) j = some c → c.kind = .radio → c.latched = true →
      (j = i ∧ c.group = b.group ∧ b.kind = .radio) ∨
      j ≠ i ∧ placeAt t j = some c ∧ (b.kind = .radio → c.group ≠ b.group) := by
    intro j c at_j kind on
    rw [placeAt_latch] at at_j
    obtain ⟨d, was, rfl⟩ := Option.map_eq_some_iff.mp at_j
    split_ifs at kind on with same unlatched
    · rw [same, present] at was
      cases was
      rw [if_pos same]
      exact .inl ⟨same, rfl, kind⟩
    · rw [if_neg same, if_neg unlatched]
      refine .inr ⟨same, was, fun radio group => unlatched ⟨radio, ?_⟩⟩
      exact latchedOther_iff.mpr ⟨d, was, same, kind, group, on⟩
  intro j k c d at_j at_k apart kind_c kind_d group on_c on_d
  obtain ⟨rfl, group_c, radio⟩ | ⟨_, was_j, other_c⟩ := place j c at_j kind_c on_c
  · obtain ⟨rfl, _, _⟩ | ⟨_, _, other_d⟩ := place k d at_k kind_d on_d
    · exact apart rfl
    · exact other_d radio (group ▸ group_c)
  · obtain ⟨rfl, group_d, radio⟩ | ⟨_, was_k, _⟩ := place k d at_k kind_d on_d
    · exact other_c radio (group.trans group_d)
    · exact h j k c d was_j was_k apart kind_c kind_d group on_c on_d

theorem RadioFree.applyAction (h : RadioFree t) (present : placeAt t i = some b) (a : ButtonAction) :
    RadioFree (applyAction t i b a) := by
  cases a with
  | enable => exact h.changeButton fun c _ kind on => ⟨kind, rfl, on⟩
  | disable => exact h.changeButton fun c _ kind on => ⟨kind, rfl, on⟩
  | latch => exact h.latch present
  | unlatch => exact h.changeButton fun c _ _ => nofun

theorem RadioFree.menuAction (h : RadioFree t) (present : placeAt t i = some b) :
    RadioFree (menuAction t i b) := by
  unfold Machine.menuAction
  split
  · exact h
  next toggle =>
    refine h.changeButton fun c at_i kind => ?_
    rw [present] at at_i
    cases at_i
    rw [toggle] at kind
    cases kind
  · exact h.latch present

end Radio

end Sys2Proof.Machine
end

section
/-! Loading a shadow bank (8.3): the entry map, the entries of a segment written at their indices, and the
button places its words spell (R143, R144). -/

namespace Sys2Proof.Machine

/-! ## The entry map (R144) -/

theorem mapAdd_succ (map : List Nat) (first n : Nat) :
    mapAdd map first (n + 1) =
      if first + n ∈ mapAdd map first n then mapAdd map first n else mapAdd map first n ++ [first + n] := by
  unfold mapAdd
  rw [List.range_succ, List.map_append, List.foldl_append]
  simp only [List.map_cons, List.map_nil, List.foldl_cons, List.foldl_nil, List.contains_iff_mem]

theorem mem_mapAdd {map : List Nat} {first n i : Nat} :
    i ∈ mapAdd map first n ↔ i ∈ map ∨ first ≤ i ∧ i < first + n := by
  induction n with
  | zero =>
    rw [or_iff_left (by omega)]
    rfl
  | succ n ih =>
    have next : first ≤ i ∧ i < first + (n + 1) ↔ (first ≤ i ∧ i < first + n) ∨ i = first + n := by omega
    rw [mapAdd_succ, next, ← or_assoc, ← ih]
    split_ifs with held
    · exact ⟨.inl, fun h => h.elim id fun e => e ▸ held⟩
    · simp

theorem nodup_mapAdd {map : List Nat} (h : map.Nodup) (first n : Nat) : (mapAdd map first n).Nodup := by
  induction n with
  | zero => exact h
  | succ n ih =>
    rw [mapAdd_succ]
    split_ifs with held
    · exact ih
    · exact ih.append (List.nodup_singleton _) (by simpa using held)

/-! ## The entries of a segment (R144) -/

theorem writeFrom_concat {α : Type} {n : Nat} (v : Vector α n) (first : Nat) (es : List α) (e : α) :
    writeFrom v first (es ++ [e]) = (writeFrom v first es).setIfInBounds (first + es.length) e := by
  unfold writeFrom
  rw [List.zipIdx_append, List.foldl_append]
  simp

/-- Each index of the segment holds its entry, every other index what it held. -/
theorem writeFrom_getElem? {α : Type} {n : Nat} (v : Vector α n) (first : Nat) (es : List α) {i : Nat}
    (inside : i < n) : (writeFrom v first es)[i]? =
      if first ≤ i ∧ i < first + es.length then es[i - first]? else v[i]? := by
  induction es using List.reverseRecOn with
  | nil =>
    rw [if_neg (by simp)]
    rfl
  | append_singleton es e ih =>
    rw [writeFrom_concat, Vector.getElem?_setIfInBounds, ih, List.length_append, List.length_singleton]
    by_cases last : first + es.length = i
    · rw [if_pos last, if_pos (last ▸ inside), if_pos (by omega), List.getElem?_append_right (by omega)]
      rw [show i - first - es.length = 0 by omega]
      rfl
    · rw [if_neg last]
      by_cases old : first ≤ i ∧ i < first + es.length
      · rw [if_pos old, if_pos (by omega), List.getElem?_append_left (by omega)]
      · rw [if_neg old, if_neg (by omega)]

/-- What an index holds after a writing is an entry written or what it held. -/
theorem mem_of_writeFrom {α : Type} {n : Nat} {v : Vector α n} {first : Nat} {es : List α} {i : Nat}
    {x : α} (h : (writeFrom v first es)[i]? = some x) : x ∈ es ∨ v[i]? = some x := by
  have inside : i < n := (Vector.getElem?_eq_some_iff.mp h).1
  rw [writeFrom_getElem? v first es inside] at h
  split_ifs at h
  · exact .inl (List.mem_of_getElem? h)
  · exact .inr h

/-! ## The button places of a segment (R143.5) -/

/-- The six words of the place at `j` of a segment's entries. -/
def placeWordsAt (f : List Word) (j : Nat) : List Word := (f.drop (6 * j)).take 6

theorem placeWordsAt_succ (f : List Word) (j : Nat) :
    placeWordsAt f (j + 1) = placeWordsAt (f.drop 6) j := by
  unfold placeWordsAt
  rw [List.drop_drop, Nat.mul_succ, Nat.add_comm]

theorem placesOf_succ (f : List Word) (n : Nat) : placesOf f (n + 1) =
    (placeOf (f.take 6)).bind fun p => (placesOf (f.drop 6) n).map (p :: ·) := by
  rw [placesOf]
  cases placeOf (f.take 6) <;> cases placesOf (f.drop 6) n <;> rfl

theorem placesOf_eq_some_iff {f : List Word} {n : Nat} {ps : List (Option Button)} :
    placesOf f n = some ps ↔
      ps.length = n ∧ ∀ j, j < n → ps[j]? = placeOf (placeWordsAt f j) := by
  induction n generalizing f ps with
  | zero => cases ps <;> simp [placesOf]
  | succ n ih =>
    have step : placesOf f (n + 1) = some ps ↔
        ∃ p qs, ps = p :: qs ∧ placeOf (f.take 6) = some p ∧ placesOf (f.drop 6) n = some qs := by
      rw [placesOf_succ]
      cases placeOf (f.take 6) <;> cases placesOf (f.drop 6) n <;> simp [eq_comm]
    rw [step]
    constructor
    · rintro ⟨p, qs, rfl, first, rest⟩
      obtain ⟨length, places⟩ := ih.mp rest
      refine ⟨by simp [length], fun j inside => ?_⟩
      cases j with
      | zero => exact first.symm
      | succ j =>
        rw [placeWordsAt_succ, ← places j (by omega)]
        rfl
    · rintro ⟨length, places⟩
      cases ps with
      | nil => cases length
      | cons p qs =>
        refine ⟨p, qs, rfl, (places 0 (by omega)).symm, ih.mpr ⟨by simpa using length, fun j inside => ?_⟩⟩
        rw [← placeWordsAt_succ, ← places (j + 1) (by omega)]
        rfl

theorem placesOf_eq_none_iff {f : List Word} {n : Nat} :
    placesOf f n = none ↔ ∃ j, j < n ∧ placeOf (placeWordsAt f j) = none := by
  induction n generalizing f with
  | zero => simp [placesOf]
  | succ n ih =>
    have step : placesOf f (n + 1) = none ↔
        placeOf (f.take 6) = none ∨ placesOf (f.drop 6) n = none := by
      rw [placesOf_succ]
      cases placeOf (f.take 6) <;> cases placesOf (f.drop 6) n <;> simp
    rw [step, ih]
    constructor
    · rintro (first | ⟨j, inside, bad⟩)
      · exact ⟨0, by omega, first⟩
      · exact ⟨j + 1, by omega, by rw [placeWordsAt_succ]; exact bad⟩
    · rintro ⟨_ | j, inside, bad⟩
      · exact .inl bad
      · exact .inr ⟨j, by omega, by rw [← placeWordsAt_succ]; exact bad⟩

/-- R143.5: the button a place's words spell keeps the rules. -/
theorem placeOf_valid {ws : List Word} {b : Button} (h : placeOf ws = some (some b)) :
    b.valid = true := by
  unfold placeOf at h
  dsimp only at h
  split_ifs at h
  · cases h
  · split at h
    · cases h
    · split_ifs at h with good
      cases h
      simp only [Bool.and_eq_true] at good
      exact good.2

theorem placesOf_valid {f : List Word} {n : Nat} {ps : List (Option Button)} {b : Button}
    (h : placesOf f n = some ps) (mem : some b ∈ ps) : b.valid = true := by
  obtain ⟨length, places⟩ := placesOf_eq_some_iff.mp h
  obtain ⟨j, at_j⟩ := List.mem_iff_getElem?.mp mem
  have inside : j < n := length ▸ (List.getElem?_eq_some_iff.mp at_j).1
  exact placeOf_valid ((places j inside).symm.trans at_j)

theorem writePlaces_valid {t : MenuTable} {f : List Word} {n first : Nat} {ps : List (Option Button)}
    (h : t.buttonsValid = true) (places : placesOf f n = some ps) :
    MenuTable.buttonsValid { t with places := writeFrom t.places first ps } = true := by
  refine buttonsValid_of_places h fun j c present => ?_
  obtain mem | kept := mem_of_writeFrom (placeAt_eq_some_iff.mp present)
  · exact .inl (placesOf_valid places mem)
  · exact .inr (placeAt_eq_some_iff.mpr kept)

theorem cleared_valid (band : Option Band) :
    MenuTable.buttonsValid { MenuTable.cleared with band := band } = true := rfl

end Sys2Proof.Machine
end

section
/-! The screen (R4, R32, R103, R122): the bounds of the centre, the beam and the lengths of what is drawn,
and what every operation keeps of them. -/

namespace Sys2Proof.Machine

/-! ## The bounds of the centre (R103) -/

theorem withinBounds_iff {p : PerParam Nat} {c : Point} : withinBounds p c = true ↔
    (boundLow p ≤ c.x ∧ c.x ≤ boundHigh p) ∧ boundLow p ≤ c.y ∧ c.y ≤ boundHigh p := by
  simp only [withinBounds, Bool.and_eq_true, decide_eq_true_eq, and_assoc]

/-- R160: ARM and GAP together are at most 40, so that the bounds leave room on the screen. -/
theorem reach_of_arm_gap {b : Banks} (h : b.paramLaw = true) : b.params.gap + b.params.arm ≤ 40 := by
  have gap : b.params.gap ≤ 8 := (Banks.param_range h .gap).2
  have arm : b.params.arm ≤ 32 := (Banks.param_range h .arm).2
  omega

theorem clampCoord_range {b : Banks} (h : b.paramLaw = true) (v : Int) :
    boundLow b.params ≤ clampCoord b.params v ∧ clampCoord b.params v ≤ boundHigh b.params := by
  have room := reach_of_arm_gap h
  unfold clampCoord boundLow boundHigh
  split_ifs <;> omega

theorem clampPoint_within {b : Banks} (h : b.paramLaw = true) (c : Point) :
    withinBounds b.params (clampPoint b.params c) = true :=
  withinBounds_iff.mpr ⟨clampCoord_range h _, clampCoord_range h _⟩

theorem armUpdate_within {b : Banks} (h : b.paramLaw = true) (c : Point) (arms : PerArm Accumulator) :
    withinBounds b.params (armUpdate b.params c arms) = true :=
  withinBounds_iff.mpr ⟨clampCoord_range h _, clampCoord_range h _⟩

/-- R106: the centre of a close is clamped, or stays. -/
theorem closeCentre_within {s : State} (params : s.banks.paramLaw = true)
    (centre : withinBounds s.banks.params s.tracking.centre = true) :
    withinBounds s.banks.params (closeCentre s) = true := by
  have sighted : withinBounds s.banks.params (sightedCentre s) = true := by
    unfold sightedCentre
    split
    · exact clampPoint_within params _
    · exact centre
  unfold closeCentre
  split
  · exact centre
  · exact sighted
  · split_ifs
    · exact armUpdate_within params _ _
    · exact sighted
  · split_ifs
    · exact centre
    · exact armUpdate_within params _ _
    · exact centre

/-! ## The items of the overlay -/

/-- Every point of an arm of the cross lies on the screen. -/
theorem armPoint_onScreen {b : Banks} {c : Point} {d : Nat} (params : b.paramLaw = true)
    (centre : withinBounds b.params c = true) (arm : Arm) (near : d ≤ b.params.gap + b.params.arm) :
    onScreen (armPoint c arm d) = true := by
  have room := reach_of_arm_gap params
  obtain ⟨⟨lowx, highx⟩, lowy, highy⟩ := withinBounds_iff.mp centre
  unfold boundLow boundHigh at *
  refine onScreen_iff.mpr ?_
  cases arm <;> simp only [armPoint] <;> omega

section Draws
variable {s : State}

theorem crossItem_draws (centre : withinBounds s.banks.params s.tracking.centre = true)
    (params : s.banks.paramLaw = true) (n : Nat) :
    s.Draws (crossItem s.banks.params s.tracking.centre s.decoder.beam n) := by
  unfold crossItem
  dsimp only
  split_ifs
  · exact moveItem_draws (armPoint_onScreen params centre _ (Nat.le_add_right _ _))
  · exact strokeItem_draws _ (armPoint_onScreen params centre _ le_rfl)

theorem Button.valid_bounds {b : Button} (h : b.valid = true) :
    16 ≤ b.w ∧ 16 ≤ b.h ∧ b.x + b.w ≤ 4095 ∧ b.y + b.h ≤ 4095 := by
  simp only [Button.valid, Bool.and_eq_true, decide_eq_true_eq] at h
  obtain ⟨⟨⟨⟨⟨⟨_, w⟩, _⟩, h'⟩, _⟩, x⟩, y⟩ := h
  exact ⟨w, h', x, y⟩

theorem buttonItem_draws {b : Button} (valid : b.valid = true) (n : Nat) :
    s.Draws (buttonItem s.banks.params s.decoder.beam b n) := by
  obtain ⟨w, h, x, y⟩ := Button.valid_bounds valid
  unfold buttonItem
  dsimp only
  split
  · exact moveItem_draws (onScreen_iff.mpr (by dsimp only; omega))
  · exact strokeItem_draws _ (onScreen_iff.mpr (by dsimp only; omega))
  · exact strokeItem_draws _ (onScreen_iff.mpr (by dsimp only; omega))
  · exact strokeItem_draws _ (onScreen_iff.mpr (by dsimp only; omega))
  · exact strokeItem_draws _ (onScreen_iff.mpr (by dsimp only; omega))
  · exact moveItem_draws (onScreen_iff.mpr (by simp only [labelPoint]; omega))
  · exact glyphItem_draws _ _

end Draws

/-! ## The copies in emission (R126) -/

theorem reach_copyValid {t : MenuTable} (h : t.buttonsValid = true) (i : Nat) :
    (reach t i).copyValid = true := by
  obtain idle | ⟨j, b, present, button⟩ := reach_cases (t := t) (i := i)
  · rw [idle]
    rfl
  · rw [button]
    exact MenuTable.buttonsValid_iff.mp h j b present

theorem beginEmission_copyValid {s : State} (h : s.banks.menuLive.buttonsValid = true) :
    (beginEmission s).copyValid = true := by
  unfold beginEmission
  split_ifs
  · rfl
  · rfl
  · exact reach_copyValid h 0

theorem nextEmission_copyValid {t : MenuTable} (h : t.buttonsValid = true) {e : Emission}
    (copy : e.copyValid = true) : (nextEmission t e).copyValid = true := by
  cases e with
  | idle => rfl
  | cross n =>
    simp only [nextEmission]
    split_ifs
    · rfl
    · exact reach_copyValid h 0
  | button i b n =>
    simp only [nextEmission]
    split_ifs
    · exact copy
    · exact reach_copyValid h _

/-! ## Lit entries (R32) -/

theorem Trail.litLong_append {t : Trail} {e : Entry} (h : t.litLong = true)
    (long : e.lit = true → 1 ≤ e.length) : (t.append e).litLong = true := by
  simp only [Trail.litLong, List.all_eq_true] at h ⊢
  intro x mem
  obtain old | new := List.mem_append.mp (List.mem_of_mem_drop mem)
  · exact h x old
  · rw [List.mem_singleton.mp new]
    cases lit : e.lit with
    | false => rfl
    | true => simpa using long lit

theorem Trail.litLong_complete {t : Trail} (h : t.litLong = true) (n : Nat) :
    (t.complete n).litLong = true := by
  simp only [Trail.litLong, List.all_eq_true] at h ⊢
  intro x mem
  obtain covered | rest := List.mem_append.mp mem
  · obtain ⟨e, old, rfl⟩ := List.mem_map.mp covered
    exact h e (List.mem_of_mem_take old)
  · exact h x (List.mem_of_mem_drop rest)

/-! ## What every operation keeps -/

/-- R4, R32, R103, R122: the parameters in range, the centre within its bounds, the beam on the screen, a
length for every lit entry, and every button within its rules. -/
def State.Screened (s : State) : Prop :=
  s.banks.paramLaw = true ∧ withinBounds s.banks.params s.tracking.centre = true ∧
  onScreen s.decoder.beam = true ∧ s.trail.litLong = true ∧ s.banks.menuLive.buttonsValid = true ∧
  s.banks.menuShadow.buttonsValid = true ∧ s.overlay.emission.copyValid = true

theorem State.screenLaw_iff {s : State} : s.screenLaw = true ↔ s.Screened := by
  simp only [State.screenLaw, State.centreLaw, State.Screened, Bool.and_eq_true, and_assoc]

section Screened
variable {s : State}

theorem State.Screened.issue (h : s.Screened) {it : Item} (draws : s.Draws it) (o : Origin) :
    (issue it o s).Screened := by
  obtain ⟨params, centre, beam, lit, live, shadow, copy⟩ := h
  obtain ⟨ends, long⟩ := draws params beam
  exact ⟨params, centre, ends, Trail.litLong_append lit long, live, shadow, copy⟩

theorem Banks.openWork_menus {b : Banks} {l : Loads} (live : b.menuLive.buttonsValid = true)
    (shadow : b.menuShadow.buttonsValid = true) : (b.openWork l).menuLive.buttonsValid = true ∧
      (b.openWork l).menuShadow.buttonsValid = true := by
  unfold Banks.openWork
  dsimp only
  split_ifs
  · exact ⟨shadow, live⟩
  · exact ⟨live, shadow⟩

theorem State.Screened.openFrame (h : s.Screened) (low : Low) : (openFrame low s).Screened := by
  obtain ⟨params, centre, beam, lit, live, shadow, copy⟩ := h
  obtain ⟨live', shadow'⟩ := Banks.openWork_menus (l := s.loads) live shadow
  have params' := Banks.openWork_paramLaw (l := s.loads) params
  exact ⟨params', clampPoint_within params' _, rfl, Trail.litLong_append lit nofun, live', shadow', copy⟩

theorem State.Screened.closeUnclosed (h : s.Screened) : (closeUnclosed s).Screened := by
  unfold Machine.closeUnclosed
  dsimp only
  split
  next low _ => exact State.Screened.openFrame (s := { s with .. }) h low
  · exact h

theorem judge_menu_valid (h : s.banks.menuLive.buttonsValid = true) :
    (judge s).menu.buttonsValid = true := by
  unfold judge
  split
  · exact h
  · split
    · unfold menuSelection
      dsimp only
      split
      · exact h
      next b present => exact menuAction_valid h present
    · exact h
    · split_ifs <;> exact h

theorem State.Screened.closeNormal (h : s.Screened) : (closeNormal s).Screened := by
  obtain ⟨params, centre, beam, lit, live, shadow, copy⟩ := h
  exact ⟨params, closeCentre_within params centre, beam, lit, judge_menu_valid live, shadow, copy⟩

theorem State.Screened.raiseLink (h : s.Screened) (c : LinkCause) : (raiseLink c s).Screened := by
  unfold Machine.raiseLink
  split_ifs <;> exact h

theorem State.Screened.issueHeldFrameEnd (h : s.Screened) : (issueHeldFrameEnd s).Screened := by
  unfold Machine.issueHeldFrameEnd
  split
  · split_ifs
    · exact h.issue (flatItem_draws _) _
    · exact h
  · exact h

theorem State.Screened.issueGeneratedFrameEnd (h : s.Screened) :
    (issueGeneratedFrameEnd s).Screened := by
  unfold Machine.issueGeneratedFrameEnd
  split_ifs
  · exact h.issue (flatItem_draws _) _
  · exact h

theorem emissionItem_draws (h : s.Screened) {it : Item} {o : Origin}
    (item : emissionItem s s.overlay.emission = some (it, o)) : s.Draws it := by
  obtain ⟨params, centre, _, _, _, _, copy⟩ := h
  cases emission : s.overlay.emission with
  | idle => rw [emission] at item; cases item
  | cross n => rw [emission] at item; cases item; exact crossItem_draws centre params n
  | button i b n => rw [emission] at item copy; cases item; exact buttonItem_draws copy n

theorem State.Screened.overlayIssue (h : s.Screened) : (overlayIssue s).Screened := by
  unfold Machine.overlayIssue
  split
  · exact h
  next it o item =>
    split_ifs
    · obtain ⟨params, centre, beam, lit, live, shadow, _⟩ := h.issue (emissionItem_draws h item) o
      refine State.Screened.issueHeldFrameEnd ⟨params, centre, beam, lit, live, shadow, ?_⟩
      exact nextEmission_copyValid live h.2.2.2.2.2.2
    · exact h

theorem State.Screened.syncEffect (h : s.Screened) : (syncEffect s).Screened := by
  obtain ⟨params, centre, beam, lit, live, shadow, copy⟩ := h
  unfold Machine.syncEffect
  split_ifs
  · exact State.Screened.issueHeldFrameEnd ⟨params, centre, beam, lit, live, shadow, rfl⟩
  · exact ⟨params, centre, beam, lit, live, shadow, copy⟩

/-- The reset values keep the laws (R22, R41, R120, R133, R154). -/
theorem resetBlocks_screened (s : State) : (resetBlocks s).Screened := State.screenLaw_iff.mp rfl

end Screened

theorem screened_parts : PartsKeep State.Screened where
  orders _ _ h := h
  queue _ _ h := h
  lost _ h := h
  inBand _ s _ := resetBlocks_screened s
  issue _ o _ _ draws h := h.issue draws o
  opens low _ _ _ h := h.openFrame low
  unclosing _ _ _ h := h
  overlay _ _ _ h := by
    obtain ⟨params, centre, beam, lit, live, shadow, _⟩ := h
    exact ⟨params, centre, beam, lit, live, shadow, beginEmission_copyValid live⟩
  held _ h := h.issueHeldFrameEnd
  generated _ h := h.issueGeneratedFrameEnd
  tagFaults _ _ h := h
  tagOpen _ _ _ h := h
  tagClose _ h := h
  setParameter f s h := by
    obtain e | ⟨n, v, e⟩ := setParameterOwner_frame f s
    · rw [e]; exact h
    · rw [e]; exact ⟨Banks.setParameter_paramLaw h.1 n v, h.2⟩
  setModes f s h := by obtain ⟨_, e⟩ := setModesOwner_frame f s; rw [e]; exact h
  layerSet f s h := by obtain ⟨_, e⟩ := layerSetOwner_frame f s; rw [e]; exact h
  buttonSet f s h := by
    obtain e | ⟨i, b, a, present, kind, e⟩ := buttonSetOwner_frame f s
    · rw [e]; exact h
    · obtain ⟨params, centre, beam, lit, live, shadow, copy⟩ := h
      rw [e]
      exact ⟨params, centre, beam, lit, applyAction_valid live present kind, shadow, copy⟩
  loadOpen f s h := by
    obtain e | ⟨t, _, _, band, _, _, e⟩ := loadOpenOwner_frame f s
    · rw [e]; exact h
    · obtain ⟨params, centre, beam, lit, live, shadow, copy⟩ := h
      rw [e]
      cases t with
      | layers => exact ⟨params, centre, beam, lit, live, shadow, copy⟩
      | menu => exact ⟨params, centre, beam, lit, live, cleared_valid band, copy⟩
  loadSegment f s h := by
    obtain e | ⟨_, _, _, _, _, _, _, _, _, w, e⟩ := loadSegmentOwner_frame f s
    · rw [e]; exact h
    · obtain ⟨params, centre, beam, lit, live, shadow, copy⟩ := h
      rw [e]
      obtain ⟨_, rfl⟩ | ⟨ps, _, places, rfl⟩ := writeSegment_frame w
      · exact ⟨params, centre, beam, lit, live, shadow, copy⟩
      · exact ⟨params, centre, beam, lit, live, writePlaces_valid shadow places, copy⟩
  loadClose f s h := by
    obtain e | ⟨_, e⟩ | e | ⟨_, e⟩ := loadCloseOwner_frame f s <;> rw [e] <;> exact h
  loadAbort f s h := by obtain e | ⟨_, e⟩ := loadAbortOwner_frame f s <;> rw [e] <;> exact h
  placeCross f s h := by obtain ⟨_, e⟩ := placeCrossOwner_frame f s; rw [e]; exact h
  suspendDrag s h := by obtain e | ⟨_, _, e⟩ := suspendDragOwner_frame s <;> rw [e] <;> exact h
  resumeDrag s h := by obtain e | e | ⟨_, _, _, e⟩ := resumeDragOwner_frame s <;> rw [e] <;> exact h
  cancelDrag s h := by obtain e | e := cancelDragOwner_frame s <;> rw [e] <;> exact h
  clearFault f s h := by obtain ⟨_, e⟩ := clearFaultOwner_frame f s; rw [e]; exact h
  link c _ h := h.raiseLink c
  retire n s h := by
    obtain ⟨params, centre, beam, lit, live, shadow, copy⟩ := h
    exact ⟨params, centre, beam, Trail.litLong_complete lit n, live, shadow, copy⟩
  normal _ _ h := h.closeNormal
  unclosed n _ s _ _ _ h := by
    obtain ⟨params, centre, beam, lit, live, shadow, copy⟩ := h
    exact State.Screened.closeUnclosed
      ⟨params, centre, beam, Trail.litLong_complete lit n, live, shadow, copy⟩

theorem screened_keeps : Keeps State.Screened where
  pins _ _ h := h
  resetLow _ _ h := h
  portLine _ _ h := h
  low _ _ h := h
  pending _ _ h := h
  take _ _ free h := screened_parts.take free h
  complete _ _ h := screened_parts.takeCompletion h
  hit q e s h := by
    unfold State.Screened
    rw [hitEffect_banks, hitEffect_tracking, hitEffect_decoder, hitEffect_trail, hitEffect_overlay]
    exact h
  link c _ h := h.raiseLink c
  held _ h := h.issueHeldFrameEnd
  generated _ h := h.issueGeneratedFrameEnd
  overlay _ h := h.overlayIssue
  sync _ h := h.syncEffect
  reset s _ := resetBlocks_screened s
  inBand _ s _ := resetBlocks_screened s
  pass s h := by
    obtain ⟨l, e⟩ := passFirstWord_frame s
    rw [e]
    exact h
  idle _ _ _ h := h
  backlog _ h := h

/-- Settles O58: every item drawn ends on the screen and has a length if it is lit, and the centre and the
buttons are changed within their rules. -/
theorem stepKeepsScreen : Obligations.StepKeepsScreen := by
  intro s t law stepped
  exact State.screenLaw_iff.mpr (screened_keeps.step (State.screenLaw_iff.mp law) stepped)

end Sys2Proof.Machine
end

section
/-! The capacities and the counts: the Return Lane, the frame's counters, the Hit Set, the Tag Stack, the
load sessions and the radio groups, and what every operation keeps of them. -/

namespace Sys2Proof.Machine

/-! ## The Return Lane (R170, R171, R175) -/

section Lane
variable {l : ReturnLane}

theorem bump_le (n : Nat) : bump n ≤ 65535 := Nat.min_le_right _ _

theorem ReturnLane.lawful_iff : l.lawful = true ↔ l.queue.length ≤ 32 ∧ l.lost ≤ 65535 ∧
    (∀ t, l.trackSlot = some t → t.coalesced ≤ 255) ∧ ∀ d, l.dragSlot = some d → d.coalesced ≤ 255 := by
  simp only [ReturnLane.lawful, Bool.and_eq_true, decide_eq_true_eq, Option.all_eq_true, and_assoc]

theorem ReturnLane.lawful_enqueue (h : l.lawful = true) (r : Report) : (l.enqueue r).lawful = true := by
  obtain ⟨queue, lost, track, drag⟩ := ReturnLane.lawful_iff.mp h
  unfold ReturnLane.enqueue
  split_ifs with room
  · refine ReturnLane.lawful_iff.mpr ⟨?_, lost, track, drag⟩
    rw [List.length_append]
    exact room
  · exact ReturnLane.lawful_iff.mpr ⟨queue, bump_le _, track, drag⟩

theorem ReturnLane.lawful_enqueueAll (h : l.lawful = true) (rs : List Report) :
    (l.enqueueAll rs).lawful = true :=
  List.foldlRecOn (motive := fun l : ReturnLane => l.lawful = true) rs _ h fun _ hl r _ => lawful_enqueue hl r

theorem ReturnLane.lawful_fill (h : l.lawful = true) (frame : Nat) (fill : SlotFill) :
    (l.fill frame fill).lawful = true := by
  obtain ⟨queue, lost, track, drag⟩ := ReturnLane.lawful_iff.mp h
  have small : ∀ n, bump8 n ≤ 255 := fun n => Nat.min_le_right _ _
  cases fill with
  | none => exact h
  | track c =>
    refine ReturnLane.lawful_iff.mpr ⟨queue, lost, ?_, drag⟩
    rintro _ ⟨⟩
    dsimp only
    split
    · exact Nat.zero_le _
    · exact small _
  | drag c d =>
    refine ReturnLane.lawful_iff.mpr ⟨queue, lost, track, ?_⟩
    rintro _ ⟨⟩
    dsimp only
    split
    · exact Nat.zero_le _
    · exact small _

theorem ReturnLane.lawful_freed (h : l.lawful = true) {r : Report} {rest : List Report}
    (queued : l.queue = r :: rest) : rest.length ≤ 32 := by
  have queue := (ReturnLane.lawful_iff.mp h).1
  rw [queued, List.length_cons] at queue
  omega

end Lane

/-! ## The frame's counters (R42, R62) -/

/-- R62: every counter of the frame is 0..65535. -/
def Counters.Small (k : Counters) : Prop := ∀ n ∈ counterList k, n ≤ 65535

theorem Correlator.lawful_iff {c : Correlator} :
    c.lawful = true ↔ c.counters.Small ∧ c.arrivals ≤ 65535 := by
  have law : c.lawful = (counterList c.counters ++ [c.arrivals]).all (· ≤ 65535) := rfl
  rw [law, List.all_append, Bool.and_eq_true, List.all_eq_true]
  simp [Counters.Small]

section Counters
variable {k : Counters}

theorem Counters.small_iff : k.Small ↔ k.notices ≤ 65535 ∧ k.sightings ≤ 65535 ∧ k.list ≤ 65535 ∧
    k.cross ≤ 65535 ∧ k.menu ≤ 65535 ∧ k.snapped ≤ 65535 ∧ k.dark ≤ 65535 ∧ k.stale ≤ 65535 ∧
    k.ignored ≤ 65535 ∧ k.merged ≤ 65535 ∧ k.displaced ≤ 65535 ∧ k.tagFaults ≤ 65535 := by
  simp [Counters.Small, counterList]

theorem Counters.small_zero : Counters.zero.Small := Counters.small_iff.mpr (by decide)

theorem bumpBy_le {n : Nat} (h : n ≤ 65535) (k : Nat) : bumpBy k n ≤ 65535 := by
  unfold bumpBy
  split_ifs
  · exact h
  · exact Nat.min_le_right _ _

end Counters

/-! ## The Hit Set (R65 to R67) -/

theorem hitSetLawful_iff {rs : List HitRecord} :
    hitSetLawful rs = true ↔ rs.length ≤ 16 ∧ (rs.map fun r => r.seq).Nodup := by
  simp only [hitSetLawful, Bool.and_eq_true, decide_eq_true_eq]

/-- The Hit Correlator and the Hit Set within their capacities. -/
def State.Counted (s : State) : Prop :=
  s.corr.counters.Small ∧ s.corr.arrivals ≤ 65535 ∧ hitSetLawful s.hitSet = true

section Hits
variable {s : State}

theorem State.Counted.countWith (h : s.Counted) {f : Counters → Counters}
    (small : ∀ k, k.Small → (f k).Small) : (countWith f s).Counted :=
  ⟨small _ h.1, h.2⟩

theorem State.Counted.setHitSet (h : s.Counted) {rs : List HitRecord} (held : hitSetLawful rs = true) :
    (s.setHitSet rs).Counted := ⟨h.1, h.2.1, held⟩

theorem State.Counted.arrived (h : s.Counted) :
    (s.setCorr { s.corr with arrivals := bump s.corr.arrivals }).Counted := ⟨h.1, bump_le _, h.2.2⟩

theorem State.Counted.sighting (h : s.Counted) (p : Point) : (sighting p s).Counted := by
  refine ⟨?_, h.2⟩
  have small := Counters.small_iff.mp h.1
  exact Counters.small_iff.mpr ⟨small.1, bump_le _, small.2.2⟩

theorem mergeHit_seqs (seq : Nat) (rs : List HitRecord) :
    (mergeHit seq rs).map (fun r => r.seq) = rs.map fun r => r.seq := by
  unfold mergeHit
  rw [List.map_map]
  refine List.map_congr_left fun r _ => ?_
  dsimp only [Function.comp]
  split_ifs <;> rfl

/-- R67: a new record's number is none of those held. -/
theorem nodup_append_new {rs kept : List HitRecord} {new : HitRecord} (sub : kept.Sublist rs)
    (h : (rs.map fun r => r.seq).Nodup) (fresh : ¬∃ r ∈ rs, r.seq = new.seq) :
    ((kept ++ [new]).map fun r => r.seq).Nodup := by
  rw [List.map_append, List.map_singleton]
  refine List.Nodup.append (h.sublist (sub.map _)) (List.nodup_singleton _) ?_
  rw [List.disjoint_singleton]
  intro mem
  obtain ⟨r, held, same⟩ := List.mem_map.mp mem
  exact fresh ⟨r, sub.subset held, same⟩

/-- R66, R67: merging keeps the numbers, placing needs room, and displacing makes it. -/
theorem State.Counted.handOver (h : s.Counted) (new : HitRecord) : (handOver new s).Counted := by
  obtain ⟨room, distinct⟩ := hitSetLawful_iff.mp h.2.2
  by_cases merged : ∃ r ∈ s.hitSet, r.seq = new.seq
  · rw [handOver_merged merged]
    refine (h.setHitSet (hitSetLawful_iff.mpr ⟨?_, ?_⟩)).countWith fun k h => ?_
    · exact (List.length_map _).trans_le room
    · exact (mergeHit_seqs new.seq s.hitSet).symm ▸ distinct
    · simp only [Counters.small_iff, bump_le] at h ⊢
      tauto
  · by_cases free : s.hitSet.length < 16
    · rw [handOver_placed merged free]
      refine h.setHitSet (hitSetLawful_iff.mpr
        ⟨?_, nodup_append_new (List.Sublist.refl _) distinct merged⟩)
      exact (List.length_append ..).trans_le free
    · obtain ⟨low, found⟩ := s.insertionRank.exists_lowest (rs := s.hitSet)
        (List.ne_nil_of_length_pos (by omega))
      obtain ⟨mem, _⟩ := Ranking.lowest_below found distinct
      rw [handOver_full merged (by omega) found]
      refine (h.setHitSet (hitSetLawful_iff.mpr ?_)).countWith fun k h => ?_
      · split_ifs
        · have fewer : (s.hitSet.filter fun r => r.seq ≠ low.seq).length < s.hitSet.length :=
            List.length_filter_lt_length_iff_exists.mpr ⟨low, mem, by simp⟩
          refine ⟨?_, nodup_append_new List.filter_sublist distinct merged⟩
          rw [List.length_append, List.length_singleton]
          omega
        · exact ⟨room, distinct⟩
      · simp only [Counters.small_iff, bump_le] at h ⊢
        tauto

theorem small_bumped {k : Counters} (h : k.Small) :
    Counters.Small { k with notices := bump k.notices } ∧ Counters.Small { k with list := bump k.list } ∧
    Counters.Small { k with cross := bump k.cross } ∧ Counters.Small { k with menu := bump k.menu } ∧
    Counters.Small { k with snapped := bump k.snapped } ∧ Counters.Small { k with dark := bump k.dark } ∧
    Counters.Small { k with stale := bump k.stale } ∧
    Counters.Small { k with ignored := bump k.ignored } := by
  simp only [Counters.small_iff, bump_le] at h ⊢
  tauto

theorem State.Counted.ignoreHit (h : s.Counted) : (ignoreHit s).Counted :=
  h.countWith fun _ k => (small_bumped k).2.2.2.2.2.2.2

theorem State.Counted.listHit (h : s.Counted) (e : Entry) (path : List Nat) (layer : Option Nat)
    (p : Point) (snapped : Bool) : (listHit e path layer p snapped s).Counted := by
  have counted := (h.sighting p).countWith (f := fun c => { c with list := bump c.list })
    fun _ k => (small_bumped k).2.1
  unfold Machine.listHit
  dsimp only
  split
  · exact counted.ignoreHit
  · exact counted.ignoreHit
  · split_ifs
    · exact counted.ignoreHit
    · exact counted.ignoreHit
    · exact counted.arrived.handOver _

theorem State.Counted.menuHit (h : s.Counted) (i : Nat) (enabled : Bool) :
    (menuHit i enabled s).Counted := by
  have counted := h.countWith (f := fun c => { c with menu := bump c.menu })
    fun _ k => (small_bumped k).2.2.2.1
  unfold Machine.menuHit
  dsimp only
  split_ifs
  · exact counted
  · exact counted.ignoreHit

theorem State.Counted.crossHit (h : s.Counted) (arm : Arm) (p : Point) : (crossHit arm p s).Counted :=
  (h.sighting p).countWith (f := fun c => { c with cross := bump c.cross })
    fun _ k => (small_bumped k).2.2.1

theorem State.Counted.attributeHit (h : s.Counted) (e : Entry) (p : Point) (snapped : Bool) :
    (attributeHit e p snapped s).Counted := by
  have counted : State.Counted (if snapped then
      Machine.countWith (fun c => { c with snapped := bump c.snapped }) s else s) := by
    split_ifs
    · exact h.countWith fun _ k => (small_bumped k).2.2.2.2.1
    · exact h
  unfold Machine.attributeHit
  dsimp only
  split
  · exact counted.crossHit _ _
  · exact counted.menuHit _ _
  · exact counted.listHit _ _ _ _ _

/-- R43: a hit notice counts, and hands over at most one record. -/
theorem State.Counted.hitEffect (h : s.Counted) (q e : Nat) : (hitEffect q e s).Counted := by
  have noticed : (countNotice s).Counted := h.countWith fun _ k => (small_bumped k).1
  have stale : (staleHit (countNotice s)).Counted :=
    noticed.countWith fun _ k => (small_bumped k).2.2.2.2.2.2.1
  unfold Machine.hitEffect
  split_ifs
  · exact h
  · split
    · exact stale
    · split_ifs
      · exact h
      · exact stale
      · split
        · exact stale
        · exact noticed.countWith fun _ k => (small_bumped k).2.2.2.2.2.1
        · exact noticed.attributeHit _ _ _

theorem State.Counted.tagFaults (h : s.Counted) (n : Nat) : (tagFaults n s).Counted := by
  refine h.countWith fun k small => ?_
  obtain ⟨a, b, c, d, e, f, g, i, j, l, m, o⟩ := Counters.small_iff.mp small
  exact Counters.small_iff.mpr ⟨a, b, c, d, e, f, g, i, j, l, m, bumpBy_le o n⟩

end Hits

/-! ## The Tag Stack (R23, R24) -/

section Tags
variable {t : TagStack}

theorem TagStack.lawful_iff : t.lawful = true ↔ t.records.length ≤ 8 ∧ t.overflow ≤ 255 ∧
    (∀ r ∈ t.records, 1 ≤ r.entity ∧ r.entity ≤ 65535 ∧ r.layer ≤ 63) ∧
    (t.overflow = 0 ∨ t.records.length = 8) := by
  simp only [TagStack.lawful, Bool.and_eq_true, Bool.or_eq_true, decide_eq_true_eq, List.all_eq_true,
    beq_iff_eq, and_assoc]

theorem TagStack.lawful_openTag (h : t.lawful = true) (entity : BitVec 16) (layer : Nat) :
    (t.openTag entity.toNat layer).lawful = true := by
  have top : entity.toNat ≤ 65535 := Nat.le_of_lt_succ entity.isLt
  obtain ⟨room, depth, records, full⟩ := TagStack.lawful_iff.mp h
  by_cases bad : entity.toNat = 0 ∨ 63 < layer
  · rw [(openTag_ignored bad).1]
    exact h
  by_cases free : t.records.length < 8
  · rw [(openTag_appended bad free).1]
    refine TagStack.lawful_iff.mpr ⟨?_, depth, fun r mem => ?_, .inl (by dsimp only; omega)⟩
    · exact (List.length_append ..).trans_le free
    · obtain old | new := List.mem_append.mp mem
      · exact records r old
      · rw [List.mem_singleton.mp new]
        dsimp only
        omega
  · rw [openTag_full bad free]
    split_ifs with deep
    · exact TagStack.lawful_iff.mpr ⟨room, deep, records, .inr (by dsimp only; omega)⟩
    · exact h

theorem TagStack.lawful_closeTag (h : t.lawful = true) : t.closeTag.lawful = true := by
  obtain ⟨room, depth, records, full⟩ := TagStack.lawful_iff.mp h
  unfold TagStack.closeTag
  split_ifs with deep
  · exact TagStack.lawful_iff.mpr
      ⟨room, (Nat.sub_le _ _).trans depth, records, .inr (full.resolve_left (by omega))⟩
  · refine TagStack.lawful_iff.mpr ⟨?_, depth, fun r mem => records r (List.mem_of_mem_dropLast mem),
      .inl (by dsimp only; omega)⟩
    rw [List.length_dropLast]
    omega

end Tags

/-! ## The load sessions (R141) -/

theorem Session.lawful_opened {t : Table} {count sum : Nat} {map : List Nat} :
    (Session.opened count sum map).lawful t = true ↔
      countInRange t count = true ∧ sum ≤ 65535 ∧ (∀ i ∈ map, i < count) ∧ map.Nodup := by
  simp only [Session.lawful, Bool.and_eq_true, decide_eq_true_eq, List.all_eq_true, and_assoc]

theorem Session.lawful_mapAdd {t : Table} {count sum first n : Nat} {map : List Nat}
    (h : (Session.opened count sum map).lawful t = true) (inside : first + n ≤ count) :
    (Session.opened count sum (mapAdd map first n)).lawful t = true := by
  obtain ⟨range, top, below, distinct⟩ := Session.lawful_opened.mp h
  refine Session.lawful_opened.mpr ⟨range, top, fun i mem => ?_, nodup_mapAdd distinct first n⟩
  obtain old | new := mem_mapAdd.mp mem
  · exact below i old
  · omega

theorem Session.lawful_afterOpen {t : Table} {v : Session} (h : v.lawful t = true) :
    v.afterOpen.lawful t = true := by
  cases v with
  | none => rfl
  | opened => exact h
  | swapPending => rfl

theorem Session.afterOpen_ne_swapPending (v : Session) : v.afterOpen ≠ .swapPending := by
  cases v <;> nofun

/-! ## What every operation keeps -/

/-- The sessions, and the radio groups of the live menu table and of a shadow bank whose swap is
scheduled. -/
def LoadsSound (l : Loads) (b : Banks) : Prop :=
  l.layers.lawful .layers = true ∧ l.menu.lawful .menu = true ∧ RadioFree b.menuLive ∧
  (l.menu = .swapPending → RadioFree b.menuShadow)

/-- The capacities, the counts and the radio groups. -/
def State.Capped (s : State) : Prop :=
  s.tags.lawful = true ∧ s.lane.lawful = true ∧ s.Counted ∧ LoadsSound s.loads s.banks

theorem State.capped_iff {s : State} : s.capacityLaw = true ∧ s.radioLaw = true ↔ s.Capped := by
  have radio : s.radioLaw = true ↔ RadioFree s.banks.menuLive ∧
      (s.loads.menu = .swapPending → RadioFree s.banks.menuShadow) := by
    rw [radioFree_iff, radioFree_iff]
    simp only [State.radioLaw, Bool.and_eq_true, Bool.or_eq_true, bne_iff_ne, Bool.not_eq_true']
    tauto
  rw [radio]
  simp only [State.capacityLaw, Bool.and_eq_true, Correlator.lawful_iff]
  unfold State.Capped State.Counted LoadsSound
  tauto

section Capped
variable {s : State}

theorem State.Capped.enqueue (h : s.Capped) (r : Report) : (enqueue r s).Capped :=
  ⟨h.1, ReturnLane.lawful_enqueue h.2.1 r, h.2.2⟩

theorem LoadsSound.openWork {l : Loads} {b : Banks} (h : LoadsSound l b) :
    LoadsSound l.openWork (b.openWork l) := by
  obtain ⟨layers, menu, live, shadow⟩ := h
  refine ⟨Session.lawful_afterOpen layers, Session.lawful_afterOpen menu, ?_,
    fun pending => absurd pending (Session.afterOpen_ne_swapPending _)⟩
  unfold Banks.openWork
  dsimp only
  split_ifs with swap
  · exact shadow (of_decide_eq_true swap)
  · exact live

theorem State.Capped.openFrame (h : s.Capped) (low : Low) : (openFrame low s).Capped := by
  obtain ⟨tags, lane, counted, loads⟩ := h
  exact ⟨rfl, ReturnLane.lawful_fill (ReturnLane.lawful_enqueueAll lane _) _ _,
    ⟨Counters.small_zero, Nat.zero_le _, rfl⟩, loads.openWork⟩

theorem State.Capped.closeUnclosed (h : s.Capped) : (closeUnclosed s).Capped := by
  have closed : State.Capped { s with
      decoder := { s.decoder with linkFault := false },
      resolver := { s.resolver with press := pressUnclosed s.resolver.press },
      hitSet := [], lane := s.lane.enqueueAll (missUnclosed s.decoder.frame s.resolver.press
        ++ summaryReports s true ++ [.faultUnclosed s.decoder.frame]) } := by
    obtain ⟨tags, lane, counted, loads⟩ := h
    exact ⟨tags, ReturnLane.lawful_enqueueAll lane _, ⟨counted.1, counted.2.1, rfl⟩, loads⟩
  unfold Machine.closeUnclosed
  dsimp only
  split
  next low _ => exact closed.openFrame low
  · exact closed

theorem judge_menu_radioFree (h : RadioFree s.banks.menuLive) : RadioFree (judge s).menu := by
  unfold judge
  split
  · exact h
  · split
    · unfold menuSelection
      dsimp only
      split
      · exact h
      next b present => exact h.menuAction present
    · exact h
    · split_ifs <;> exact h

theorem State.Capped.closeNormal (h : s.Capped) : (closeNormal s).Capped := by
  obtain ⟨tags, lane, counted, layers, menu, live, shadow⟩ := h
  exact ⟨tags, ReturnLane.lawful_fill (ReturnLane.lawful_enqueueAll lane _) _ _, counted,
    layers, menu, judge_menu_radioFree live, shadow⟩

theorem State.Capped.raiseLink (h : s.Capped) (c : LinkCause) : (raiseLink c s).Capped := by
  unfold Machine.raiseLink
  split_ifs
  · exact h
  · exact h.enqueue _
  · exact h.enqueue _

theorem State.Capped.issueHeldFrameEnd (h : s.Capped) : (issueHeldFrameEnd s).Capped := by
  obtain ⟨_, _, e⟩ := issueHeldFrameEnd_frame s
  rw [e]
  exact h

theorem State.Capped.issueGeneratedFrameEnd (h : s.Capped) : (issueGeneratedFrameEnd s).Capped := by
  obtain ⟨_, _, e⟩ := issueGeneratedFrameEnd_frame s
  rw [e]
  exact h

theorem State.Capped.syncEffect (h : s.Capped) : (syncEffect s).Capped := by
  unfold Machine.syncEffect
  split_ifs
  · exact State.Capped.issueHeldFrameEnd (State.Capped.enqueue h _)
  · exact h

/-- R172 to R175: a place freed, and the OVERFLOW that may take it, with the lost count then at 0. -/
theorem State.Capped.passFirstWord (h : s.Capped) : (passFirstWord s).Capped := by
  obtain ⟨tags, lane, rest⟩ := h
  obtain ⟨queue, lost, track, drag⟩ := ReturnLane.lawful_iff.mp lane
  unfold Machine.passFirstWord
  split
  · exact ⟨tags, ReturnLane.lawful_iff.mpr ⟨queue, lost, nofun, drag⟩, rest⟩
  · exact ⟨tags, ReturnLane.lawful_iff.mpr ⟨queue, lost, track, nofun⟩, rest⟩
  next r left chosen =>
    have queued : s.lane.queue = r :: left := by
      unfold ReturnLane.choose at chosen
      split at chosen <;> cases chosen
      assumption
    have freed : State.Capped (s.setLane { s.lane with
        queue := left, owedTrack := false, owedDrag := false, lane := .sending r }) :=
      ⟨tags, ReturnLane.lawful_iff.mpr ⟨ReturnLane.lawful_freed lane queued, lost, track, drag⟩, rest⟩
    dsimp only
    split_ifs
    · exact freed
    · unfold queueOverflow
      split_ifs
      · obtain ⟨queue', _, track', drag'⟩ :=
          ReturnLane.lawful_iff.mp (ReturnLane.lawful_enqueue freed.2.1 (.overflow s.decoder.frame s.lane.lost))
        exact ⟨tags, ReturnLane.lawful_iff.mpr ⟨queue', Nat.zero_le _, track', drag'⟩, rest⟩
      · exact freed
  · exact ⟨tags, lane, rest⟩

theorem resetBlocks_sound (s : State) : (resetBlocks s).tags.lawful = true ∧ (resetBlocks s).Counted ∧
    LoadsSound (resetBlocks s).loads (resetBlocks s).banks :=
  ⟨rfl, ⟨Counters.small_zero, Nat.zero_le _, rfl⟩, rfl, rfl, radioFree_iff.mpr rfl, nofun⟩

end Capped

theorem capped_parts : PartsKeep State.Capped where
  orders _ _ h := h
  queue r _ h := h.enqueue r
  lost s h := by
    obtain ⟨tags, lane, rest⟩ := h
    obtain ⟨queue, lost, track, drag⟩ := ReturnLane.lawful_iff.mp lane
    exact ⟨tags, ReturnLane.lawful_iff.mpr ⟨queue, bump_le _, track, drag⟩, rest⟩
  inBand _ s _ := by
    obtain ⟨tags, rest⟩ := resetBlocks_sound s
    exact ⟨tags, rfl, rest⟩
  issue _ _ _ _ _ h := h
  opens low _ _ _ h := h.openFrame low
  unclosing _ _ _ h := h
  overlay _ _ _ h := h
  held _ h := h.issueHeldFrameEnd
  generated _ h := h.issueGeneratedFrameEnd
  tagFaults k _ h := ⟨h.1, h.2.1, h.2.2.1.tagFaults k, h.2.2.2⟩
  tagOpen e l _ h := ⟨TagStack.lawful_openTag h.1 e l, h.2⟩
  tagClose _ h := ⟨TagStack.lawful_closeTag h.1, h.2⟩
  setParameter f s h := by obtain e | ⟨_, _, e⟩ := setParameterOwner_frame f s <;> rw [e] <;> exact h
  setModes f s h := by obtain ⟨_, e⟩ := setModesOwner_frame f s; rw [e]; exact h
  layerSet f s h := by obtain ⟨_, e⟩ := layerSetOwner_frame f s; rw [e]; exact h
  buttonSet f s h := by
    obtain e | ⟨i, b, a, present, _, e⟩ := buttonSetOwner_frame f s
    · rw [e]; exact h
    · obtain ⟨tags, lane, counted, layers, menu, live, shadow⟩ := h
      rw [e]
      exact ⟨tags, lane, counted, layers, menu, live.applyAction present a, shadow⟩
  loadOpen f s h := by
    obtain e | ⟨t, _, _, _, range, top, e⟩ := loadOpenOwner_frame f s
    · rw [e]; exact h
    · obtain ⟨tags, lane, counted, layers, menu, live, shadow⟩ := h
      have opened := Session.lawful_opened.mpr ⟨range, top, fun _ mem => absurd mem List.not_mem_nil, List.nodup_nil⟩
      rw [e]
      cases t with
      | layers => exact ⟨tags, lane, counted, opened, menu, live, shadow⟩
      | menu => exact ⟨tags, lane, counted, layers, opened, live, nofun⟩
  loadSegment f s h := by
    obtain e | ⟨_, _, _, _, _, _, _, opened, inside, w, e⟩ := loadSegmentOwner_frame f s
    · rw [e]; exact h
    · obtain ⟨tags, lane, counted, layers, menu, live, shadow⟩ := h
      rw [e]
      obtain ⟨rfl, rfl⟩ | ⟨_, rfl, _, rfl⟩ := writeSegment_frame w
      · have session : s.loads.layers = _ := opened
        rw [session] at layers
        exact ⟨tags, lane, counted, Session.lawful_mapAdd layers inside, menu, live, shadow⟩
      · have session : s.loads.menu = _ := opened
        rw [session] at menu
        exact ⟨tags, lane, counted, layers, Session.lawful_mapAdd menu inside, live, nofun⟩
  loadClose f s h := by
    obtain ⟨tags, lane, counted, layers, menu, live, shadow⟩ := h
    obtain e | ⟨t, e⟩ | e | ⟨free, e⟩ := loadCloseOwner_frame f s <;> rw [e]
    · exact ⟨tags, lane, counted, layers, menu, live, shadow⟩
    · cases t with
      | layers => exact ⟨tags, lane, counted, rfl, menu, live, shadow⟩
      | menu => exact ⟨tags, lane, counted, layers, rfl, live, nofun⟩
    · exact ⟨tags, lane, counted, rfl, menu, live, shadow⟩
    · exact ⟨tags, lane, counted, layers, rfl, live, fun _ => radioFree_iff.mpr free⟩
  loadAbort f s h := by
    obtain ⟨tags, lane, counted, layers, menu, live, shadow⟩ := h
    obtain e | ⟨t, e⟩ := loadAbortOwner_frame f s <;> rw [e]
    · exact ⟨tags, lane, counted, layers, menu, live, shadow⟩
    · cases t with
      | layers => exact ⟨tags, lane, counted, rfl, menu, live, shadow⟩
      | menu => exact ⟨tags, lane, counted, layers, rfl, live, nofun⟩
  placeCross f s h := by obtain ⟨_, e⟩ := placeCrossOwner_frame f s; rw [e]; exact h
  suspendDrag s h := by obtain e | ⟨_, _, e⟩ := suspendDragOwner_frame s <;> rw [e] <;> exact h
  resumeDrag s h := by obtain e | e | ⟨_, _, _, e⟩ := resumeDragOwner_frame s <;> rw [e] <;> exact h
  cancelDrag s h := by obtain e | e := cancelDragOwner_frame s <;> rw [e] <;> exact h
  clearFault f s h := by obtain ⟨_, e⟩ := clearFaultOwner_frame f s; rw [e]; exact h
  link c _ h := h.raiseLink c
  retire _ _ h := h
  normal _ _ h := h.closeNormal
  unclosed _ _ s _ _ _ h := State.Capped.closeUnclosed (s := s.setTrail _) h

theorem capped_keeps : Keeps State.Capped where
  pins _ _ h := h
  resetLow _ _ h := h
  portLine _ _ h := h
  low _ _ h := h
  pending _ _ h := h
  take _ _ free h := capped_parts.take free h
  complete _ _ h := capped_parts.takeCompletion h
  hit q e s h := by
    refine ⟨?_, ?_, h.2.2.1.hitEffect q e, ?_⟩
    · rw [hitEffect_tags]; exact h.1
    · rw [hitEffect_lane]; exact h.2.1
    · rw [hitEffect_loads, hitEffect_banks]; exact h.2.2.2
  link c _ h := h.raiseLink c
  held _ h := h.issueHeldFrameEnd
  generated _ h := h.issueGeneratedFrameEnd
  overlay s h := by
    obtain ⟨_, _, _, e⟩ := overlayIssue_frame s
    rw [e]
    exact h
  sync _ h := h.syncEffect
  reset s _ := by
    obtain ⟨tags, rest⟩ := resetBlocks_sound s
    exact ⟨tags, rfl, rest⟩
  inBand t s h := capped_parts.inBand t s h
  pass _ h := h.passFirstWord
  idle _ _ _ h := h
  backlog _ h := h

/-- Settles O59: each block's capacity and counts are kept by the operations that change them. -/
theorem stepKeepsCapacities : Obligations.StepKeepsCapacities := by
  intro s t capacity radio stepped
  exact State.capped_iff.mpr (capped_keeps.step (State.capped_iff.mp ⟨capacity, radio⟩) stepped)

end Sys2Proof.Machine
end

section
/-! The stream port and the waiting arrivals (R20, R21): what goes on holding an item, and what every command
leaves at the port. -/

namespace Sys2Proof.Machine

/-! ## What goes on holding an item -/

theorem stallCauses_eq_nil_iff {i : Instr} {s : State} : stallCauses i s = [] ↔
    (wouldIssue i s = true → s.windowOpen = true) ∧
    (s.decoder.phase = .overlay ∨ s.decoder.phase = .closing → i.isOrder = true) ∧
    s.decoder.phase ≠ .unclosing ∧ (i.isOrder = true → s.lane.queue.length < 32) ∧
    s.orders.inHand = none ∧ s.resetLow = false := by
  unfold stallCauses
  simp only [List.append_eq_nil_iff, ite_eq_right_iff, List.cons_ne_nil, imp_false, Bool.and_eq_true,
    Bool.not_eq_true', decide_eq_true_eq, beq_iff_eq, not_and, Bool.not_eq_false, not_le, or_imp,
    Option.isSome_iff_ne_none, not_not, Bool.not_eq_true, and_assoc]
  rfl

/-- Every cause of R20 in force in `s` is in force in `t`, or one that holds the same items. -/
structure HoldsOn (s t : State) : Prop where
  phase : t.decoder.phase = s.decoder.phase ∨ s.decoder.phase = .overlay ∧ t.decoder.phase = .closing
  window : t.trail = s.trail ∨ s.windowOpen = true
  queue : s.lane.queue.length ≤ t.lane.queue.length
  drain : t.orders.inHand = s.orders.inHand
  ports : SamePorts s t

theorem HoldsOn.refl (s : State) : HoldsOn s s := ⟨.inl rfl, .inl rfl, le_rfl, rfl, .refl s⟩

theorem HoldsOn.trans {s t u : State} (h : HoldsOn s t) (k : HoldsOn t u) : HoldsOn s u where
  phase := by
    obtain e | ⟨e, f⟩ := h.phase
    · rw [← e]
      exact k.phase
    · exact .inr ⟨e, by simpa [f] using k.phase⟩
  window := by
    obtain e | e := h.window
    · unfold State.windowOpen
      rw [← e]
      exact k.window
    · exact .inr e
  queue := h.queue.trans k.queue
  drain := k.drain.trans h.drain
  ports := h.ports.trans k.ports

theorem HoldsOn.held {s t : State} (h : HoldsOn s t) {i : Instr} (held : stallCauses i s ≠ []) :
    stallCauses i t ≠ [] := by
  intro free
  apply held
  rw [stallCauses_eq_nil_iff] at free ⊢
  obtain ⟨window, phase, unclosing, queue, drain, low⟩ := free
  refine ⟨fun issues => ?_, ?_, ?_, fun order => h.queue.trans_lt (queue order), h.drain ▸ drain,
    h.ports.resetLow ▸ low⟩
  · obtain same | opened := h.window
    · obtain e | ⟨e, _⟩ := h.phase
      · have issues' : wouldIssue i t = true := by
          rw [wouldIssue_iff] at issues ⊢
          rw [e]
          exact issues
        have opened := window issues'
        unfold State.windowOpen at opened ⊢
        rwa [← same]
      · simp [wouldIssue_iff, e] at issues
    · exact opened
  · obtain e | ⟨e, f⟩ := h.phase
    · rwa [← e]
    · exact fun _ => phase (.inr f)
  · obtain e | ⟨e, _⟩ := h.phase
    · rwa [← e]
    · rw [e]
      nofun

theorem ReturnLane.length_enqueue_ge (l : ReturnLane) (r : Report) :
    l.queue.length ≤ (l.enqueue r).queue.length := by
  unfold ReturnLane.enqueue
  split_ifs
  · simp
  · exact le_rfl

theorem holdsOn_raiseLink (c : LinkCause) (s : State) : HoldsOn s (raiseLink c s) where
  phase := by unfold raiseLink; split_ifs <;> exact .inl rfl
  window := .inl (by simp)
  queue := by
    unfold raiseLink
    split_ifs
    · exact le_rfl
    · exact ReturnLane.length_enqueue_ge _ _
    · exact ReturnLane.length_enqueue_ge _ _
  drain := by simp
  ports := raiseLink_ports c s

theorem holdsOn_hitEffect (q e : Nat) (s : State) : HoldsOn s (hitEffect q e s) where
  phase := .inl (by simp)
  window := .inl (by simp)
  queue := by simp
  drain := by simp
  ports := hitEffect_ports q e s

theorem holdsOn_issueHeldFrameEnd (s : State) : HoldsOn s (issueHeldFrameEnd s) := by
  refine ⟨?_, ?_, by simp, by simp, issueHeldFrameEnd_ports s⟩ <;> unfold issueHeldFrameEnd <;> split
  · split_ifs with due
    · simp only [State.frameEndWaits, Bool.and_eq_true, beq_iff_eq] at due
      exact .inr ⟨due.1.1, rfl⟩
    · exact .inl rfl
  · exact .inl rfl
  · split_ifs with due
    · simp only [Bool.and_eq_true] at due
      exact .inr due.2
    · exact .inl rfl
  · exact .inl rfl

theorem holdsOn_issueGeneratedFrameEnd (s : State) : HoldsOn s (issueGeneratedFrameEnd s) := by
  refine ⟨?_, ?_, by simp, by simp, issueGeneratedFrameEnd_ports s⟩ <;>
    unfold issueGeneratedFrameEnd <;> split_ifs with due
  · exact .inl rfl
  · exact .inl rfl
  · exact .inr due.2.2
  · exact .inl rfl

theorem holdsOn_overlayIssue (s : State) : HoldsOn s (overlayIssue s) := by
  unfold overlayIssue
  split
  · exact .refl s
  next it o _ =>
    split_ifs with room
    · refine HoldsOn.trans ?_ (holdsOn_issueHeldFrameEnd _)
      exact ⟨.inl rfl, .inr room, le_rfl, rfl, rfl, rfl, rfl, rfl, rfl⟩
    · exact .refl s

theorem holdsOn_syncEffect (s : State) : HoldsOn s (syncEffect s) := by
  unfold syncEffect
  split_ifs
  · refine HoldsOn.trans ?_ (holdsOn_issueHeldFrameEnd _)
    exact ⟨.inl rfl, .inl rfl, ReturnLane.length_enqueue_ge _ _, rfl, rfl, rfl, rfl, rfl, rfl⟩
  · exact .refl s

/-! ## The law of the port -/

/-- R21: what waits for the reset line. -/
def State.WaitsLow (s : State) : Prop :=
  (∀ i ∈ s.lowArrivals, i.isStreamItem = true ∨ i.isNotice = true) ∧
  (s.resetLow = true ∨ s.lowArrivals = [])

theorem State.portLaw_iff {s : State} : s.portLaw = true ↔
    (∀ i rest, s.portLine = i :: rest → stallCauses i s ≠ []) ∧
    (∀ i ∈ s.portLine, i.isStreamItem = true) ∧ s.WaitsLow := by
  unfold State.portLaw State.WaitsLow
  simp only [Bool.and_eq_true, Bool.or_eq_true, List.all_eq_true, List.isEmpty_iff, and_assoc]
  rcases s.portLine with _ | ⟨i, rest⟩
  · simp
  · simp

theorem HoldsOn.portLaw {s t : State} (h : HoldsOn s t) (law : s.portLaw = true) : t.portLaw = true := by
  obtain ⟨head, line, low⟩ := State.portLaw_iff.mp law
  refine State.portLaw_iff.mpr ⟨fun i rest e => h.held (head i rest (h.ports.portLine ▸ e)), ?_, ?_⟩
  · rwa [h.ports.portLine]
  · unfold State.WaitsLow
    rwa [h.ports.lowArrivals, h.ports.resetLow]

/-- Draining leaves the end of the line. -/
theorem drain_suffix (line : List Instr) (s : State) : (drain line s).portLine <:+ line := by
  induction line generalizing s with
  | nil => exact List.suffix_refl _
  | cons i rest ih =>
    by_cases free : stallCauses i s = []
    · rw [drain_taken free]
      exact (ih _).trans (List.suffix_cons i rest)
    · rw [drain_held free]
      exact List.suffix_refl _

theorem drain_waitsLow {s : State} (line : List Instr) (low : s.WaitsLow) : (drain line s).WaitsLow := by
  refine drain_keeps line s (fun _ _ h => h) (fun i u _ h => ?_) low
  have ports := take_ports i u
  unfold State.WaitsLow
  rwa [ports.lowArrivals, ports.resetLow]

/-- Whatever stood before, a draining of stream items leaves the port lawful. -/
theorem drain_portLaw {s : State} {line : List Instr} (items : ∀ i ∈ line, i.isStreamItem = true)
    (low : s.WaitsLow) : (drain line s).portLaw = true :=
  State.portLaw_iff.mpr ⟨drain_head_held line s,
    fun i mem => items i ((drain_suffix line s).subset mem), drain_waitsLow line low⟩

/-- Work that leaves the ports alone, and then a draining. -/
theorem drainPort_portLaw {s t : State} (same : SamePorts s t) (law : s.portLaw = true) :
    (drainPort t).portLaw = true := by
  obtain ⟨_, line, low⟩ := State.portLaw_iff.mp law
  refine drain_portLaw ?_ ?_
  · rwa [same.portLine]
  · unfold State.WaitsLow
    rwa [same.lowArrivals, same.resetLow]

theorem lowArrivals_portLaw {s : State} {i : Instr} (kind : i.isStreamItem = true ∨ i.isNotice = true)
    (low : s.resetLow = true) (law : s.portLaw = true) :
    (s.setLowArrivals (s.lowArrivals ++ [i])).portLaw = true := by
  obtain ⟨head, line, arrivals, _⟩ := State.portLaw_iff.mp law
  refine State.portLaw_iff.mpr ⟨head, line, fun j mem => ?_, .inl low⟩
  obtain old | new := List.mem_append.mp mem
  · exact arrivals j old
  · exact List.mem_singleton.mp new ▸ kind

theorem present_portLaw {s : State} {i : Instr} (item : i.isStreamItem = true) (law : s.portLaw = true) :
    (present i s).portLaw = true := by
  unfold present
  split_ifs with low
  · exact lowArrivals_portLaw (.inl item) low law
  · obtain ⟨_, line, waits⟩ := State.portLaw_iff.mp law
    refine drain_portLaw (fun j mem => ?_) waits
    obtain old | new := List.mem_append.mp mem
    · exact line j old
    · exact List.mem_singleton.mp new ▸ item

theorem takeNotice_portLaw {s : State} (i : Instr) (law : s.portLaw = true) :
    (takeNotice i s).portLaw = true := by
  unfold takeNotice
  split
  · exact drainPort_portLaw (takeCompletion_ports _ s) law
  · exact (holdsOn_hitEffect _ _ s).portLaw law
  · exact (holdsOn_raiseLink _ s).portLaw law
  · exact law

theorem notice_portLaw {s : State} {i : Instr} (kind : i.isNotice = true) (law : s.portLaw = true) :
    (notice i s).portLaw = true := by
  unfold notice
  split_ifs with low
  · exact lowArrivals_portLaw (.inr kind) low law
  · exact takeNotice_portLaw i law

/-- R21: what waited for the line is taken in order of arrival. -/
theorem arrive_portLaw (is : List Instr) {s : State}
    (kinds : ∀ i ∈ is, i.isStreamItem = true ∨ i.isNotice = true) (law : s.portLaw = true) :
    (is.foldl arrive s).portLaw = true := by
  induction is generalizing s with
  | nil => exact law
  | cons i is ih =>
    refine ih (fun j mem => kinds j (List.mem_cons_of_mem _ mem)) ?_
    unfold arrive
    split_ifs with note
    · exact takeNotice_portLaw i law
    · exact present_portLaw ((kinds i List.mem_cons_self).resolve_right note) law

theorem presented_portLaw {s t : State} {i : Instr} (item : i.isStreamItem = true)
    (law : s.portLaw = true) (e : presented i s = .next t) : t.portLaw = true := by
  unfold presented at e
  split_ifs at e
  cases e
  exact present_portLaw item law

/-! ## The commands -/

theorem passFirstWord_ports (s : State) : SamePorts s (passFirstWord s) := by
  obtain ⟨_, e⟩ := passFirstWord_frame s
  rw [e]
  exact ⟨rfl, rfl, rfl, rfl, rfl⟩

theorem reportStarts_portLaw {s : State} (law : s.portLaw = true) : (reportStarts s).portLaw = true := by
  unfold reportStarts
  split
  · exact drainPort_portLaw (passFirstWord_ports s) law
  next no_queued =>
    unfold passFirstWord
    split
    · exact law
    · exact law
    next chosen => exact absurd chosen (no_queued _ _)
    · exact law

theorem lineReset_ports (s : State) : SamePorts s (lineReset s) := ⟨rfl, rfl, rfl, rfl, rfl⟩

/-- R21: the low line holds every item. -/
theorem resetLow_portLaw {s : State} (law : s.portLaw = true) :
    ((lineReset s).setResetLow true).portLaw = true := by
  obtain ⟨_, line, arrivals, _⟩ := State.portLaw_iff.mp law
  refine State.portLaw_iff.mpr ⟨fun i _ _ free => ?_, line, arrivals, .inl rfl⟩
  exact absurd (stallCauses_eq_nil_iff.mp free).2.2.2.2.2 (by simp)

theorem released_portLaw {s : State} (law : s.portLaw = true) :
    (s.lowArrivals.foldl arrive
      (drainPort (((lineReset s).setResetLow false).setLowArrivals []))).portLaw = true := by
  obtain ⟨_, line, arrivals, _⟩ := State.portLaw_iff.mp law
  refine arrive_portLaw _ arrivals (drain_portLaw line ⟨?_, .inr rfl⟩)
  exact fun _ mem => absurd mem List.not_mem_nil

/-- The command of a stream item presents it, with the pen lines it brings. -/
theorem exec_streamItem {i : Instr} {s : State} (item : i.isStreamItem = true) :
    exec i s = presented i (s.setPins (s.seenPins i)) := by
  cases i <;> first | rfl | cases item

theorem exec_portLaw {i : Instr} {s t : State} (law : s.portLaw = true) (e : exec i s = .next t) :
    t.portLaw = true := by
  by_cases item : i.isStreamItem = true
  · rw [exec_streamItem item] at e
    exact presented_portLaw (s := s.setPins (s.seenPins i)) item law e
  cases i with
  | frameEndIssue => cases e; exact (holdsOn_issueHeldFrameEnd s).portLaw law
  | generatedFrameEndIssue => cases e; exact (holdsOn_issueGeneratedFrameEnd s).portLaw law
  | overlayItemIssue => cases e; exact (holdsOn_overlayIssue s).portLaw law
  | completionNotice seq pins => cases e; exact notice_portLaw (s := s.setPins pins) rfl law
  | hitNotice seq el => cases e; exact notice_portLaw rfl law
  | unknownNotice w =>
    change (if _ then _ else _) = _ at e
    split at e
    · cases e; exact notice_portLaw rfl law
    · cases e
  | syncArrival =>
    cases e
    split
    · exact law
    · exact (holdsOn_syncEffect s).portLaw law
  | resetLineAssert =>
    cases e
    split
    · exact law
    · exact resetLow_portLaw law
  | resetLineRelease pins =>
    cases e
    split
    · exact released_portLaw (s := s.setPins pins) law
    · exact law
  | reportStart pins =>
    cases e
    split
    · exact reportStarts_portLaw (s := s.setPins pins) law
    · exact law
  | reportEnd =>
    cases e
    split
    · exact law
    · split
      · exact law
      · split <;> exact law
  | inBandResetPerformed pins =>
    change (match (s.setPins pins).orders.inHand with
      | some tag => _
      | none => _) = _ at e
    split at e
    · cases e
      split
      · exact drainPort_portLaw (s := s.setPins pins) (performInBandReset_ports _ _) law
      · exact law
    · cases e; exact law
  | beamPortWordSent =>
    cases e
    split <;> exact law
  | _ => exact absurd rfl item

/-- Settles O60: a draining leaves a held item at the head, and what does not drain goes on holding it. -/
theorem stepKeepsPortLine : Obligations.StepKeepsPortLine := by
  intro s t law stepped
  unfold step at stepped
  split at stepped
  · cases stepped
    exact law
  next rest _ => exact exec_portLaw (s := s.setPending rest) law stepped

end Sys2Proof.Machine
end

section
/-! The words of the links: the items of the stream port (R1, R2) and word 0 of the reports. -/

namespace Sys2Proof.Machine

open Sys2Proof.Laws

/-! ## Items -/

/-- R2: an item's words are taken off the front of whatever follows them. -/
theorem decodeItem_append {p : Pins} {w : Word} {ws rest : List Word} (count : ws.length = wordsAfter w) :
    decodeItem p (w :: ws ++ rest) = some (itemOf p w ws, rest) := by
  have enough : ¬(ws ++ rest).length < wordsAfter w := by
    rw [List.length_append]
    omega
  rw [List.cons_append, decodeItem, if_neg enough, ← count, List.take_left, List.drop_left]

theorem orderHeader_fields (c t : BitVec 8) {n : Nat} (h : n ≤ 63) :
    (kindOf (orderHeader c t n)).toNat = 0x10 ∧ (orderHeader c t n).extractLsb' 16 8 = c ∧
    (orderHeader c t n).extractLsb' 8 8 = t := by
  have hc := c.isLt
  have ht := t.isLt
  refine ⟨?_, BitVec.eq_of_toNat_eq ?_, BitVec.eq_of_toNat_eq ?_⟩
  · rw [kindOf_toNat, orderHeader_toNat c t h]
    omega
  · rw [BitVec.extractLsb'_toNat, orderHeader_toNat c t h, Nat.shiftRight_eq_div_pow]
    omega
  · rw [BitVec.extractLsb'_toNat, orderHeader_toNat c t h, Nat.shiftRight_eq_div_pow]
    omega

theorem itemOf_orderHeader {p : Pins} (c t : BitVec 8) {f : List Word} (h : f.length ≤ 63) :
    itemOf p (orderHeader c t f.length) f = orderOf c t f := by
  obtain ⟨kind, code, tag⟩ := orderHeader_fields c t h
  unfold itemOf
  rw [kind]
  simp only [code, tag]

/-- R159: a code that is none of the eighteen names no order of its own. -/
theorem orderOf_unknown {c t : BitVec 8} {f : List Word} (unknown : knownOrder c = false) :
    orderOf c t f = .unknownOrder c t f := by
  unfold orderOf
  split <;> simp_all [knownOrder]

/-- Every order is its header, made of its code, tag and length, and its field words. -/
theorem order_words {i : Instr} (order : i.isOrder = true) (ok : i.wellFormed = true) :
    ∃ c t f, encodeItem i = orderHeader c t f.length :: f ∧ f.length ≤ 63 ∧ orderOf c t f = i := by
  cases i with
  | unknownOrder c t f =>
    simp only [Instr.wellFormed, Bool.and_eq_true, Bool.not_eq_true', decide_eq_true_eq] at ok
    exact ⟨c, t, f, rfl, ok.2, orderOf_unknown ok.1⟩
  | setParameter t f | setModes t f | layerSet t f | buttonSet t f | loadOpen t f | loadSegment t f
  | loadClose t f | loadAbort t f | placeCross t f | suspendDrag t f | resumeDrag t f | cancelDrag t f
  | clearFault t f | mark t f | status t f | describe t f | resetEnable t f | reset t f =>
    exact ⟨_, t, f, rfl, of_decide_eq_true ok, rfl⟩
  | _ => cases order

theorem decodeItem_order {i : Instr} {p : Pins} (rest : List Word) (order : i.isOrder = true)
    (ok : i.wellFormed = true) : decodeItem p (encodeItem i ++ rest) = some (i, rest) := by
  obtain ⟨c, t, f, words, short, named⟩ := order_words order ok
  rw [words, decodeItem_append (order_count short), itemOf_orderHeader c t short, named]

theorem extractLsb'_firstWord {k : BitVec 8} {low : Low} {start len : Nat} (below : start + len ≤ 24) :
    (firstWord k low).extractLsb' start len = low.extractLsb' start len :=
  BitVec.extractLsb'_append_eq_of_add_le below

theorem itemOf_move {p : Pins} {x y : BitVec 12} {ws : List Word} :
    itemOf p (firstWord 0x03 (x ++ y)) ws = .move x y := by
  unfold itemOf
  rw [kindOf_firstWord, extractLsb'_firstWord (by decide), extractLsb'_firstWord (by decide),
    BitVec.extractLsb'_append_eq_left, BitVec.extractLsb'_append_eq_right]
  rfl

theorem itemOf_tagOpen {p : Pins} {layer : BitVec 8} {entity : BitVec 16} {ws : List Word} :
    itemOf p (firstWord 0x06 (layer ++ entity)) ws = .tagOpen layer entity := by
  unfold itemOf
  rw [kindOf_firstWord, extractLsb'_firstWord (start := 16) (by decide),
    extractLsb'_firstWord (len := 16) (by decide), BitVec.extractLsb'_append_eq_left,
    BitVec.extractLsb'_append_eq_right]
  rfl

/-- R1: a kind of no table entry spells an opaque item. -/
theorem itemOf_opaque {p : Pins} {k : BitVec 8} {low : Low} {ws : List Word}
    (kind : oneWordOpaque k = true ∨ longOpaque k = true) :
    itemOf p (firstWord k low) ws = .opaqueItem k low ws := by
  simp only [oneWordOpaque, longOpaque, Bool.or_eq_true, Bool.and_eq_true, beq_iff_eq,
    decide_eq_true_eq] at kind
  unfold itemOf
  rw [kindOf_firstWord, lowOf_firstWord]
  split <;> simp_all

/-- Settles O5: an item's words are as many as the first announces, and the first names its kind. -/
theorem streamItemRoundTrip : Obligations.StreamItemRoundTrip := by
  intro i rest item ok
  by_cases order : i.isOrder = true
  · exact decodeItem_order rest order ok
  cases i with
  | frameStart low p =>
    exact (decodeItem_append (first_count rfl)).trans
      (by simp [itemOf, kindOf_firstWord, lowOf_firstWord, Instr.pins])
  | frameEnd low => exact (decodeItem_append (first_count rfl)).trans (by simp [itemOf, kindOf_firstWord, lowOf_firstWord])
  | move x y =>
    exact (decodeItem_append (first_count rfl)).trans (by rw [itemOf_move])
  | stroke low w => exact (decodeItem_append (first_count rfl)).trans (by simp [itemOf, kindOf_firstWord, lowOf_firstWord])
  | glyphRun low codes =>
    obtain ⟨_, _, words, count⟩ := WordCount.glyphRun low codes item ok
    cases words
    exact (decodeItem_append count).trans (by simp [itemOf, kindOf_firstWord, lowOf_firstWord])
  | opaqueItem k low ws =>
    obtain ⟨_, _, words, count⟩ := WordCount.opaqueItem k low ws item ok
    cases words
    simp only [Instr.wellFormed, Bool.or_eq_true, Bool.and_eq_true] at ok
    exact (decodeItem_append count).trans (by rw [itemOf_opaque (ok.imp And.left And.left)])
  | tagOpen layer entity =>
    exact (decodeItem_append (first_count rfl)).trans (by rw [itemOf_tagOpen])
  | tagClose =>
    exact (decodeItem_append (first_count rfl)).trans (by simp [itemOf, kindOf_firstWord])
  | frameEndIssue | generatedFrameEndIssue | overlayItemIssue | completionNotice | hitNotice
  | unknownNotice | syncArrival | resetLineAssert | resetLineRelease | reportStart | reportEnd
  | inBandResetPerformed | beamPortWordSent => cases item
  | _ => exact absurd rfl order

/-- Settles O4, by evaluation at words written out from Chapter 11. -/
theorem knownWordsDecode : Obligations.KnownWordsDecode :=
  fun _ => ⟨rfl, rfl, rfl, rfl, rfl, rfl, rfl, rfl, rfl, rfl, rfl, rfl, rfl⟩

/-! ## Reports -/

/-- The three fields of word 0 stand apart. -/
theorem headerWord_fields {code count frame : Nat} (hc : code ≤ 255) (hn : count ≤ 255)
    (hf : frame ≤ 65535) : let w : Word := BitVec.ofNat 32 (put code 31 24 + put count 23 16 + put frame 15 0)
    bits w 31 24 = code ∧ bits w 23 16 = count ∧ bits w 15 0 = frame := by
  simp only [bits, put, BitVec.toNat_ofNat]
  omega

theorem length_pathWords (path : List Nat) : (pathWords path).length = (path.length + 1) / 2 := by
  induction path using pathWords.induct with
  | case1 => rfl
  | case2 a => simp [pathWords]
  | case3 a b rest ih =>
    rw [pathWords, List.length_cons, ih, List.length_cons, List.length_cons]
    omega

theorem length_payloadWords_le (p : Payload) : (payloadWords p).length ≤ 8 := by
  cases p with
  | absent | param | mark => simp [payloadWords]
  | status => simp [payloadWords, statusWords]
  | describe => decide

theorem reportCode_le (r : Report) : reportCode r ≤ 255 := by
  cases r <;> simp [reportCode]

/-- Only a path makes a report's length its own; those of a PICK and of a HOVER are at most 8 long. -/
theorem length_reportBody_le {r : Report} (path : match r with
    | .pick _ (some d) => d.path.length ≤ 8
    | .hover _ path => path.length ≤ 8
    | _ => True) : (reportBody r).length ≤ 255 := by
  cases r with
  | reply tag code frame isOpen st payload =>
    have short := length_payloadWords_le payload
    simp only [reportBody, List.length_cons]
    omega
  | pick frame d =>
    cases d with
    | none => simp [reportBody]
    | some d =>
      simp only [reportBody, List.length_cons, length_pathWords]
      omega
  | hover frame path =>
    simp only [reportBody, List.length_cons, length_pathWords]
    omega
  | faultLink frame c => cases c <;> simp [reportBody]
  | frameSummary frame unclosed c => simp [reportBody, length_pathWords, counterList]
  | _ => simp [reportBody]

/-- Settles O6: every body fits the count field. -/
theorem reportHeaderWord : Obligations.ReportHeaderWord :=
  ⟨fun r frame path => ⟨_, rfl,
    headerWord_fields (reportCode_le r) (length_reportBody_le path) frame⟩, length_pathWords⟩

/-! ## The stream port -/

/-- A cause stands in the list for its own condition alone. -/
theorem mem_stallCauses {i : Instr} {s : State} {c : StallCause} : c ∈ stallCauses i s ↔ match c with
    | .windowFull => wouldIssue i s = true ∧ s.windowOpen = false
    | .overlayEmission => s.decoder.phase = .overlay ∧ i.isOrder = false
    | .frameBoundary => s.decoder.phase = .closing ∧ i.isOrder = false
    | .unclosedClose => s.decoder.phase = .unclosing
    | .queueFull => i.isOrder = true ∧ 32 ≤ s.lane.queue.length
    | .resetDrain => s.orders.inHand ≠ none
    | .resetLine => s.resetLow = true := by
  cases c with
  | queueFull =>
    simp only [stallCauses, List.mem_append, List.mem_ite_nil_right, List.mem_singleton, reduceCtorEq,
      Bool.and_eq_true, decide_eq_true_eq, and_true, and_false, false_or, or_false]
    rfl
  | _ => simp [stallCauses, List.mem_ite_nil_right, Option.isSome_iff_ne_none]

/-- Settles O7: the first cause by what the Decoder would issue, the others by their own conditions. -/
theorem stallCauses_obligation : Obligations.StallCauses := by
  intro i s item
  refine ⟨?_, mem_stallCauses, mem_stallCauses, mem_stallCauses, mem_stallCauses, mem_stallCauses,
    mem_stallCauses⟩
  rw [mem_stallCauses, wouldIssue_iff, ← Bool.not_eq_true, windowOpen_iff, not_lt, and_comm]

/-- Settles O8: an item that nothing takes stands last in its line. -/
theorem heldItemWaits : Obligations.HeldItemWaits := by
  intro i s item ok
  have presents : ∀ u, present i (s.setPins (s.seenPins i)) = u → exec i s = .next u := by
    rintro _ rfl
    rw [exec_streamItem item, presented, if_pos ok]
  refine ⟨fun low => presents _ ?_, fun low line held => presents _ ?_,
    fun h rest low line held => presents _ ?_⟩
  · rw [present, if_pos (by exact low)]
    rfl
  · rw [present_waits (s := s.setPins (s.seenPins i)) low (by simp [line]) (fun takes => held takes.2.2)]
    exact congrArg (State.setPortLine _) (congrArg (· ++ [i]) line)
  · have waits (takes : (s.setPins (s.seenPins i)).takesAtOnce i) : False := by
      have empty : s.portLine = [] := takes.2.1
      rw [line] at empty
      cases empty
    have head (j : Instr) (behind : List Instr) (e : s.portLine = j :: behind) : stallCauses j s ≠ [] := by
      cases line.symm.trans e
      exact held
    rw [present_waits (s := s.setPins (s.seenPins i)) low head waits]
    exact congrArg (State.setPortLine _) (congrArg (· ++ [i]) line)

/-! ## The step and the reset values -/

/-- Settles O1: `step` reads nothing but the queue of commands. -/
theorem stepRunsFrontCommand : Obligations.StepRunsFrontCommand := by
  refine ⟨fun c rest s => rfl, fun s idle => ?_⟩
  unfold step
  rw [idle]

/-- Settles O2, by evaluation of the reset state. -/
theorem resetValues : Obligations.ResetValues := by
  unfold Obligations.ResetValues
  decide

/-- Settles O3, by evaluation of the reset state. -/
theorem resetIsLawful : Obligations.ResetIsLawful := by
  unfold Obligations.ResetIsLawful
  decide

end Sys2Proof.Machine
end

section
/-! The drawing and opaque items of the stream (R5 to R8): each is issued from the beam. -/

namespace Sys2Proof.Machine

/-- Settles O9: the issue of the item that `moveItem` draws. -/
theorem moveIssued : Obligations.MoveIssued := by
  intro x y s h
  have taken : exec (.move x y) s = .next (takeMove x y s) := exec_takes rfl rfl h
  rw [taken]
  exact congrArg _ (issue_eq _ _ _)

/-- Settles O10: the issue of the item that `strokeItem` draws. -/
theorem strokeIssued : Obligations.StrokeIssued := by
  intro low point s h
  have taken : exec (.stroke low point) s = .next (takeStroke low point s) := exec_takes rfl rfl h
  dsimp only
  rw [taken]
  exact congrArg _ (issue_eq _ _ _)

theorem glyphInRange_iff {size count : Nat} :
    glyphInRange size count = true ↔ 1 ≤ size ∧ size ≤ 4 ∧ 1 ≤ count ∧ count ≤ 32 := by
  simp only [glyphInRange, Bool.and_eq_true, decide_eq_true_eq, and_assoc]

/-- R7: a GLYPH RUN out of range is the flat item of its kind. -/
theorem glyphItem_eq (p : PerParam Nat) (beam : Point) (size count : Nat) (words : List Word) :
    let fits := 1 ≤ size ∧ size ≤ 4 ∧ 1 ≤ count ∧ count ≤ 32
    glyphItem p beam size count words =
      { kind := .glyphRun, stop := if fits then ⟨min (beam.x + 8 * size * count) 4095, beam.y⟩ else beam,
        length := if fits then count * p.glyphStep * size else 0, lit := decide fits,
        glyph := if fits then some ⟨size, count⟩ else none, words := words } := by
  dsimp only
  unfold glyphItem
  simp only [glyphInRange_iff]
  split_ifs with fits
  · rw [decide_eq_true fits]
  · rw [decide_eq_false fits]

/-- Settles O11: the issue of the item that `glyphItem` measures, and of the flat item of an opaque one. -/
theorem glyphRunAndOpaqueIssued : Obligations.GlyphRunAndOpaqueIssued := by
  refine ⟨fun low codes s ok h => ?_, fun kind low rest s ok h => ?_⟩
  · have taken : exec (.glyphRun low codes) s = .next (takeGlyphRun low codes s) := exec_takes rfl ok h
    dsimp only
    rw [taken]
    exact congrArg _ ((congrArg (issue · _ _) (glyphItem_eq ..)).trans (issue_eq _ _ _))
  · have taken : exec (.opaqueItem kind low rest) s = .next (takeOpaque kind low rest s) :=
      exec_takes rfl ok h
    rw [taken]
    exact congrArg _ (issue_eq _ _ _)

end Sys2Proof.Machine
end

section
/-! The open of a frame (R9): what it leaves of each block, the reports it queues and the slot it fills. -/

namespace Sys2Proof.Machine

/-! ## Slots (R108, R171) -/

section Fill
variable (l : ReturnLane) (frame : Nat) (fill : SlotFill)

@[simp] theorem ReturnLane.fill_queue : (l.fill frame fill).queue = l.queue := by cases fill <;> rfl
@[simp] theorem ReturnLane.fill_lost : (l.fill frame fill).lost = l.lost := by cases fill <;> rfl
@[simp] theorem ReturnLane.fill_lane : (l.fill frame fill).lane = l.lane := by cases fill <;> rfl

/-- The number of reports a new one replaces in its slot. -/
theorem fillTrack_coalesced (c : Point) : (l.fillTrack frame c).trackSlot =
    some ⟨frame, c, (l.trackSlot.map fun x => min (x.coalesced + 1) 255).getD 0⟩ := by
  unfold ReturnLane.fillTrack
  cases l.trackSlot <;> rfl

theorem fillDrag_coalesced (c : Point) (d : Disp) : (l.fillDrag frame c d).dragSlot =
    some ⟨frame, c, d, (l.dragSlot.map fun x => min (x.coalesced + 1) 255).getD 0⟩ := by
  unfold ReturnLane.fillDrag
  cases l.dragSlot <;> rfl

end Fill

/-! ## The open -/

section Open
variable {low : Low} {pins : Pins} {s t : State}

theorem exec_frameStart_idle (h : s.takesAtOnce (.frameStart low pins)) (idle : s.decoder.phase = .idle) :
    exec (.frameStart low pins) s = .next (openFrame low (clearArmed (s.setPins pins))) := by
  have taken : exec (.frameStart low pins) s = .next (takeFrameStart low (s.setPins pins)) :=
    exec_takes (i := .frameStart low pins) rfl rfl h
  have phase : (clearArmed (s.setPins pins)).decoder.phase = .idle := idle
  rw [taken]
  unfold takeFrameStart
  dsimp only
  rw [phase]

theorem opened_of_exec (h : s.takesAtOnce (.frameStart low pins)) (idle : s.decoder.phase = .idle)
    (e : exec (.frameStart low pins) s = .next t) : t = openFrame low (clearArmed (s.setPins pins)) := by
  rw [exec_frameStart_idle h idle] at e
  cases e
  rfl

/-- Settles O14: the Decoder's part of the open and the issue of the FRAME START. -/
theorem frameStartOpens : Obligations.FrameStartOpens := by
  intro low pins s h idle
  refine ⟨_, exec_frameStart_idle h idle, rfl, ?_, rfl, rfl, rfl, ?_, ?_, ?_, ?_, ?_, ?_⟩
  · unfold openFrame
    exact (congrArg State.trail (issue_eq _ _ _)).trans rfl
  all_goals simp
  · rfl
  · exact h.2.1

/-! ## The Table Banks and the Overlay (R148 to R153, R123) -/

/-- R150, R153: a pending set of a layer stands over the live entry. -/
theorem openWork_layersLive (b : Banks) (l : Loads) {i : Nat} (inside : i < 64) :
    (b.openWork l).layersLive[i]? = ((b.pendingLayers[i]?).join.or
      (if l.layers = .swapPending then b.layersShadow[i]? else b.layersLive[i]?)) := by
  have live : (if l.layers = .swapPending then b.layersShadow[i]? else b.layersLive[i]?) =
      some ((if l.layers = .swapPending then b.layersShadow else b.layersLive)[i]) := by
    split_ifs <;> exact Vector.getElem?_eq_getElem inside
  unfold Banks.openWork
  rw [live]
  simp only [decide_eq_true_eq, Vector.getElem?_eq_getElem inside, Vector.getElem_mapIdx]
  cases b.pendingLayers[i] <;> rfl

theorem Session.afterOpen_eq (v : Session) : v.afterOpen = if v = .swapPending then .none else v := by
  cases v <;> rfl

/-- Settles O15: the banks' open work, entry by entry. -/
theorem openAppliesPending : Obligations.OpenAppliesPending := by
  intro low pins s t h idle e
  obtain rfl := opened_of_exec h idle e
  refine ⟨fun i inside => openWork_layersLive s.banks s.loads inside, ?_, ?_, ?_, ?_,
    PerParam.apply_get _ _, rfl, fun i inside => ?_, fun n => PerParam.all_get _ n, rfl, rfl⟩
  · exact if_congr decide_eq_true_iff rfl rfl
  · exact if_congr decide_eq_true_iff rfl rfl
  · exact if_congr decide_eq_true_iff rfl rfl
  · exact congrArg₂ Loads.mk (Session.afterOpen_eq _) (Session.afterOpen_eq _)
  · exact Vector.getElem?_replicate_of_lt inside

/-! ## The pen and the press window (R86 to R91, R70, R71, R78, R81) -/

theorem hoverCleared_iff {r : Resolver} {state : PenState} {on : Bool} : hoverCleared r state on = true ↔
    r.lastHover ≠ [] ∧ ¬(state = .tracking ∧ on = true) := by
  simp only [hoverCleared, Bool.and_eq_true, Bool.or_eq_true, Bool.not_eq_true', bne_iff_ne,
    List.isEmpty_eq_false_iff]
  rw [not_and_or, Bool.not_eq_true]

/-- R81: the hover is kept only in TRACKING with HOVER on. -/
theorem lastHover_openWork (r : Resolver) (state : PenState) (on : Bool) :
    (if hoverCleared r state on = true then [] else r.lastHover) =
      if state = .tracking ∧ on = true then r.lastHover else [] := by
  simp only [hoverCleared_iff]
  by_cases kept : state = .tracking ∧ on = true
  · rw [if_neg (fun both => both.2 kept), if_pos kept]
  · rw [if_neg kept]
    split_ifs with cleared
    · rfl
    · exact not_not.mp fun some => cleared ⟨some, kept⟩

section Pen
variable {p : Pen} {placement : Bool}

@[simp] theorem Pen.openWork_holder : (p.openWork pins placement).pen.holder = p.holderNext pins := by
  rw [Pen.openWork_pen]

@[simp] theorem Pen.openWork_tip : (p.openWork pins placement).pen.tip = p.tipNext pins := by
  rw [Pen.openWork_pen]

/-- A placement is applied exactly where the pen is then out of its holder. -/
theorem Pen.places_iff : p.Places pins placement ↔
    placement = true ∧ (p.openWork pins placement).pen.state ≠ .stowed := by
  rw [Pen.openWork_pen]
  dsimp only
  split_ifs with places
  · exact ⟨fun _ => ⟨places.1, nofun⟩, fun _ => places⟩
  · exact Iff.rfl

theorem pressAtOpen_eq (window : Nat) (w : PressWindow) :
    pressAtOpen (p.openWork pins placement) window w = match w with
      | .closed => if p.tip = .up ∧ p.tipNext pins = .down ∧ p.holderNext pins = .outside then
          .opened 1 window else .closed
      | .opened k w => if p.tip = .down ∧ p.tipNext pins = .up ∨ p.Stows pins then .closed
          else .opened (k + 1) w := by
  cases w with
  | closed => simp only [pressAtOpen, Pen.openWork_change, Pen.openWork_holder, Bool.and_eq_true,
      toDown_iff, beq_iff_eq, and_assoc]
  | opened k w => simp only [pressAtOpen, Pen.openWork_change, Bool.or_eq_true, toUp_iff, toInside_iff]

end Pen

/-- Settles O16: the Pen Monitor's record after the open, and what the Pick Resolver makes of it. -/
theorem openMovesPenAndPress : Obligations.OpenMovesPenAndPress := by
  intro low pins s t h idle e
  obtain rfl := opened_of_exec h idle e
  exact ⟨Pen.openWork_pen, pressAtOpen_eq _ _, rfl, lastHover_openWork _ _ _⟩

/-! ## The centre and the drag (R103, R105, R110 to R114) -/

theorem clampCoord_natCast (p : PerParam Nat) (v : Nat) : clampCoord p v =
    if v < boundLow p then boundLow p else if boundHigh p < v then boundHigh p else v := by
  simp only [clampCoord, Nat.cast_lt, Int.toNat_natCast]

section Drag
variable {p : Pen} {placement request : Bool} {frame : Nat} {c : Point}

theorem dragAtOpen_drag {drag : Option Drag} :
    (dragAtOpen (p.openWork pins placement) request frame c drag).drag =
      let q := (p.openWork pins placement).pen
      match drag with
      | some d =>
        if q.state = .stowed then none
        else if p.tip = .down ∧ q.tip = .up then
          if d.suspended then some { d with releasePending := true } else none
        else some d
      | none =>
        if request = true ∧ q.state = .tracking ∧ q.tip = .down ∧
            ¬(placement = true ∧ q.state ≠ .stowed) then
          some { origin := c, suspended := false, releasePending := false, resumeFrame := 0 }
        else none := by
  cases drag with
  | some d =>
    simp only [dragAtOpen, Pen.openWork_change, Pen.openWork_tip, toUp_iff]
    split_ifs <;> rfl
  | none =>
    simp only [dragAtOpen, Bool.and_eq_true, Bool.not_eq_true', ← Bool.not_eq_true,
      Pen.openWork_placed_iff, Pen.places_iff, beq_iff_eq, and_assoc]
    split_ifs <;> rfl

end Drag

/-- Settles O17: the Tracking Unit's record after the open. -/
theorem openMovesCentreAndDrag : Obligations.OpenMovesCentreAndDrag := by
  intro low pins s t h idle e
  obtain rfl := opened_of_exec h idle e
  have target : (if (s.pen.openWork pins s.tracking.placement.isSome).placed = true then
        s.tracking.placement.getD s.tracking.centre else s.tracking.centre) =
      if s.tracking.placement.isSome = true ∧
          (s.pen.openWork pins s.tracking.placement.isSome).pen.state ≠ .stowed then
        s.tracking.placement.getD s.tracking.centre else s.tracking.centre := by
    simp only [Pen.openWork_placed_iff, Pen.places_iff]
  refine ⟨?_, rfl, dragAtOpen_drag⟩
  refine (congrArg (clampPoint _) target).trans ?_
  exact congrArg₂ Point.mk (clampCoord_natCast _ _) (clampCoord_natCast _ _)

/-! ## The reports (R71, R81, R83, R88 to R91, R97, R99, R112 to R114) -/

section Reports
variable {p : Pen} {placement request : Bool} {frame : Nat} {c : Point}

/-- A placement reports an acquisition unless the pen was in TRACKING already. -/
theorem acquired_iff : p.Places pins placement ∧ p.stateByHolder pins ≠ .tracking ↔
    (placement = true ∧ (p.openWork pins placement).pen.state ≠ .stowed) ∧
      (p.Lifts pins ∨ p.state ≠ .tracking) := by
  rw [← Pen.places_iff]
  refine and_congr_right fun places => ?_
  have out := places.2
  unfold Pen.stateByHolder at out ⊢
  split_ifs at out ⊢ with stows lifts
  · exact absurd rfl out
  · exact ⟨fun _ => .inl lifts, nofun⟩
  · exact ⟨.inr, fun either => either.resolve_left lifts⟩

theorem PenOpen.reports_eq : (p.openWork pins placement).reports frame c =
    let q := (p.openWork pins placement).pen
    (if p.holder = .outside ∧ q.holder = .inside then
        [.penEvent frame .stowed q.holder q.tip q.state]
      else if p.holder = .inside ∧ q.holder = .outside then
        [.penEvent frame .lifted q.holder q.tip q.state] else []) ++
    (if (p.tip = .up ∧ q.tip = .down) ∧ q.holder = .inside then
      [.penEvent frame .tipInHolder q.holder q.tip q.state] else []) ++
    (if (placement = true ∧ q.state ≠ .stowed) ∧
        ((p.holder = .inside ∧ q.holder = .outside) ∨ p.state ≠ .tracking) then
      [.trackAcquired frame .placed c] else []) := by
  have acquired : ((p.openWork pins placement).placed &&
      (p.openWork pins placement).unplaced != .tracking) = true ↔
      (placement = true ∧ (p.openWork pins placement).pen.state ≠ .stowed) ∧
        (p.Lifts pins ∨ p.state ≠ .tracking) := by
    rw [← acquired_iff, Bool.and_eq_true, Pen.openWork_placed_iff, bne_iff_ne, Pen.openWork_unplaced]
  simp only [PenOpen.reports, acquired, Pen.openWork_change, Bool.and_eq_true, toInside_iff,
    toOutside_iff, toDown_iff, beq_iff_eq, Pen.openWork_holder, Pen.openWork_tip]

theorem hoverCleared_openWork {r : Resolver} {o : PenOpen} {b : PerParam Nat} {m : PerMode Bool} :
    hoverCleared r o.pen.state m.hover = true ↔
      r.lastHover ≠ [] ∧ (r.openWork o b m).lastHover = [] := by
  unfold Resolver.openWork
  dsimp only
  split_ifs with cleared
  · simp only [cleared, (hoverCleared_iff.mp cleared).1, ne_eq, not_false_eq_true, and_self]
  · simp only [cleared, Bool.false_eq_true, ne_eq, not_and_self_iff]

theorem Resolver.openReports_eq (r : Resolver) (b : PerParam Nat) (m : PerMode Bool) :
    r.openReports (p.openWork pins placement) m frame =
      let q := (p.openWork pins placement).pen
      (if r.press ≠ .closed ∧ ((p.tip = .down ∧ q.tip = .up) ∨ (p.holder = .outside ∧ q.holder = .inside))
        then [.pick frame none] else []) ++
      (if r.lastHover ≠ [] ∧ (r.openWork (p.openWork pins placement) b m).lastHover = [] then
        [.hover frame []] else []) := by
  unfold Resolver.openReports
  simp only [hoverCleared_openWork (b := b)]
  cases r.press with
  | closed => rfl
  | opened k w =>
    simp only [missAtOpen, Pen.openWork_change, Bool.or_eq_true, toUp_iff, toInside_iff,
      Pen.openWork_holder, Pen.openWork_tip, ne_eq, reduceCtorEq, not_false_eq_true, true_and]

/-- The reports of the drag say how the record changed. -/
theorem dragAtOpen_reports (o : PenOpen) (drag : Option Drag) :
    (dragAtOpen o request frame c drag).reports =
      match drag, (dragAtOpen o request frame c drag).drag with
      | some d, none => [.dragEnd frame (if o.pen.state = .stowed then .stowed else .released) c
          (displacement c d.origin)]
      | none, some _ => [.dragStart frame c]
      | _, _ => [] := by
  unfold dragAtOpen
  cases drag with
  | some d =>
    dsimp only
    split_ifs <;> rfl
  | none =>
    dsimp only
    split_ifs <;> rfl

end Reports

/-- R83, R99, R170: with room for all, the reports of several blocks at the end of the queue. -/
theorem ReturnLane.enqueueAll_blocks {l : ReturnLane} (k : Nat) {blocks : List (List Report)}
    (room : l.queue.length + blocks.flatten.length ≤ 32) :
    ∃ m, l.enqueueAll (interleave (blocks.flatten.length + 1) k blocks).1 =
        { l with queue := l.queue ++ m } ∧
      m.Perm blocks.flatten ∧ ∀ b ∈ blocks, b.Sublist m := by
  obtain ⟨perm, subs⟩ := interleave_merges (blocks.flatten.length + 1) k blocks (Nat.lt_succ_self _)
  exact ⟨_, ReturnLane.enqueueAll_room (by rwa [perm.length_eq]), perm, subs⟩

/-- R108: the slots after an open, by how the centre and the drag moved. -/
theorem fillAtOpen_slots (l : ReturnLane) (before after : PenState) (old new : Point) (step : DragStep) :
    let moved := before = .tracking ∧ after = .tracking ∧ new ≠ old ∧ step.reports = []
    let u := l.fill frame (fillAtOpen before after old new step)
    u.trackSlot = (if moved ∧ step.drag = none then
        some ⟨frame, new, (l.trackSlot.map fun x => min (x.coalesced + 1) 255).getD 0⟩
      else l.trackSlot) ∧
    u.dragSlot = match step.drag with
      | some d => if moved then
          some ⟨frame, new, displacement new d.origin,
            (l.dragSlot.map fun x => min (x.coalesced + 1) 255).getD 0⟩
        else l.dragSlot
      | none => l.dragSlot := by
  dsimp only
  by_cases moved : before = .tracking ∧ after = .tracking ∧ new ≠ old ∧ step.reports = []
  · obtain ⟨was, is, changed, silent⟩ := moved
    rw [fillAtOpen, if_pos ⟨was, is, changed.symm, silent⟩]
    cases step.drag with
    | none => exact ⟨by simp [was, is, changed, silent, ReturnLane.fill, fillTrack_coalesced], rfl⟩
    | some d => exact ⟨by simp; rfl, by simp [was, is, changed, silent, ReturnLane.fill, fillDrag_coalesced]⟩
  · have same : ¬(before = .tracking ∧ after = .tracking ∧ old ≠ new ∧ step.reports = []) :=
      fun ⟨was, is, changed, silent⟩ => moved ⟨was, is, changed.symm, silent⟩
    rw [fillAtOpen, if_neg same, if_neg (fun both => moved both.1)]
    cases step.drag with
    | none => exact ⟨rfl, rfl⟩
    | some d => exact ⟨rfl, (if_neg moved).symm⟩

/-- Settles O18: the reports of each block by its own record, and the interleaving by the shared one. -/
theorem openQueuesReports : Obligations.OpenQueuesReports := by
  intro low pins s t h idle e
  obtain rfl := opened_of_exec h idle e
  intro frame c toIn toOut toDown toUp placed event pen pick drag moved room
  have pen_eq : (s.pen.openWork pins s.tracking.placement.isSome).reports frame c = pen :=
    PenOpen.reports_eq
  have pick_eq : s.resolver.openReports (s.pen.openWork pins s.tracking.placement.isSome)
      (s.banks.openWork s.loads).modes frame = pick :=
    Resolver.openReports_eq _ (s.banks.openWork s.loads).params _
  have drag_eq : (dragAtOpen (s.pen.openWork pins s.tracking.placement.isSome) s.resolver.dragRequest
      frame c s.tracking.drag).reports = drag := dragAtOpen_reports _ _
  obtain ⟨m, queued, perm, subs⟩ := ReturnLane.enqueueAll_blocks (l := s.lane) s.freeIndex
    (blocks := [(s.pen.openWork pins s.tracking.placement.isSome).reports frame c,
      s.resolver.openReports (s.pen.openWork pins s.tracking.placement.isSome)
        (s.banks.openWork s.loads).modes frame,
      (dragAtOpen (s.pen.openWork pins s.tracking.placement.isSome) s.resolver.dragRequest
        frame c s.tracking.drag).reports])
    (by rw [pen_eq, pick_eq, drag_eq]; simp; omega)
  have lane := congrArg (fun l => l.fill frame (fillAtOpen s.pen.state
      (openFrame low (clearArmed (s.setPins pins))).pen.state s.tracking.centre c
      (dragAtOpen (s.pen.openWork pins s.tracking.placement.isSome) s.resolver.dragRequest
        frame c s.tracking.drag))) queued
  have opened : (openFrame low (clearArmed (s.setPins pins))).lane = _ := lane
  obtain ⟨track, held⟩ := fillAtOpen_slots (frame := frame) { s.lane with queue := s.lane.queue ++ m }
    s.pen.state (openFrame low (clearArmed (s.setPins pins))).pen.state s.tracking.centre c
    (dragAtOpen (s.pen.openWork pins s.tracking.placement.isSome) s.resolver.dragRequest frame c
      s.tracking.drag)
  rw [drag_eq] at track held
  rw [pen_eq, pick_eq, drag_eq] at perm subs
  rw [opened]
  refine ⟨⟨m, ReturnLane.fill_queue .., ?_, subs _ ?_, subs _ ?_, subs _ ?_⟩, ReturnLane.fill_lost ..,
    ReturnLane.fill_lane .., track, held⟩
  all_goals simp
  simpa using perm

end Open

end Sys2Proof.Machine
end

section
/-! The FRAME ENDs in hand (R11, R14), the ends of a frame (R10, R14, R124), the emission (R125 to R127) and its
truncation (R128, R129). -/

namespace Sys2Proof.Machine

/-! ## The FRAME END in hand and the generated one -/

section InHand
variable {s : State} {low : Low}

theorem emitting_eq_false_iff {e : Emission} : e.emitting = false ↔ e = .idle := by
  cases e <;> simp [Emission.emitting]

theorem emitting_iff {e : Emission} : e.emitting = true ↔ e ≠ .idle := by
  cases e <;> simp [Emission.emitting]

/-- The entry of the list's FRAME END, with the Tag Stack's path (R11, R27). -/
def State.frameEndEntry (s : State) : Entry :=
  { seq := s.trail.nextSeq, kind := .frameEnd,
    origin := .list (s.tags.records.map (·.entity)) (s.tags.records.getLast?.map (·.layer)),
    start := s.decoder.beam, stop := s.decoder.beam, length := 0, lit := false, glyph := none,
    frame := some s.decoder.frame, completed := false }

theorem frameNow_of_open (busy : s.decoder.phase ≠ .idle) : s.frameNow = some s.decoder.frame :=
  if_neg busy

/-- R11: the FRAME END whose emission has ended, with the window open. -/
theorem issueHeldFrameEnd_due (overlay : s.decoder.phase = .overlay)
    (held : s.decoder.inHand = some (.frameEnd low)) (ended : s.overlay.emission = .idle)
    (room : s.trail.outstanding < 16) :
    issueHeldFrameEnd s =
      let v := s.issued s.frameEndEntry [firstWord 0x02 low]
      { v with decoder := { v.decoder with phase := .closing, inHand := none } } := by
  have waits : (s.frameEndWaits && s.windowOpen) = true := by
    simp [State.frameEndWaits, overlay, ended, Emission.emitting, windowOpen_iff.mpr room]
  have frame := frameNow_of_open (s := s) (by simp [overlay])
  unfold issueHeldFrameEnd State.frameEndEntry
  rw [held]
  dsimp only
  rw [if_pos waits, issue_eq, frame]
  rfl

/-- R11: any other FRAME END goes on waiting. -/
theorem issueHeldFrameEnd_not_due (waits : s.decoder.phase = .overlay → s.overlay.emission = .idle →
    16 ≤ s.trail.outstanding) : issueHeldFrameEnd s = s := by
  have not_due : ¬(s.frameEndWaits && s.windowOpen) = true := by
    simp only [State.frameEndWaits, Bool.and_eq_true, beq_iff_eq, Bool.not_eq_true',
      emitting_eq_false_iff, windowOpen_iff]
    rintro ⟨⟨overlay, ended⟩, room⟩
    exact absurd room (Nat.not_lt.mpr (waits overlay ended))
  unfold issueHeldFrameEnd
  split
  · rw [if_neg not_due]
  · rfl

/-- R14: the generated FRAME END is not outstanding. -/
theorem generatedIssued_eq_false_iff : s.generatedIssued = false ↔ (s.trail.entries.all fun e =>
    !(e.kind == .frameEnd && e.frame == some s.decoder.frame && !e.completed)) = true := by
  unfold State.generatedIssued Entry.closes
  rw [← Bool.not_eq_true', List.not_any_eq_all_not]

theorem issueGeneratedFrameEnd_unclosing (unclosing : s.decoder.phase = .unclosing) :
    issueGeneratedFrameEnd s =
      if s.trail.outstanding < 16 ∧ (s.trail.entries.all fun e =>
          !(e.kind == .frameEnd && e.frame == some s.decoder.frame && !e.completed)) = true then
        s.issued { seq := s.trail.nextSeq, kind := .frameEnd, origin := .list [] none,
                   start := s.decoder.beam, stop := s.decoder.beam, length := 0, lit := false,
                   glyph := none, frame := some s.decoder.frame, completed := false }
          [firstWord 0x02 0]
      else s := by
  have due : (s.decoder.phase = .unclosing ∧ (!s.generatedIssued) = true ∧ s.windowOpen = true) ↔
      s.trail.outstanding < 16 ∧ (s.trail.entries.all fun e =>
        !(e.kind == .frameEnd && e.frame == some s.decoder.frame && !e.completed)) = true := by
    rw [Bool.not_eq_true', generatedIssued_eq_false_iff, windowOpen_iff, and_iff_right unclosing, and_comm]
  have frame := frameNow_of_open (s := s) (by simp [unclosing])
  unfold issueGeneratedFrameEnd
  simp only [due, issue_eq, frame]
  rfl

theorem issueGeneratedFrameEnd_other (other : s.decoder.phase ≠ .unclosing) :
    issueGeneratedFrameEnd s = s :=
  if_neg fun due => other due.1

/-- Settles O21: each FRAME END by its own rule. -/
theorem frameEndIssued : Obligations.FrameEndIssued := by
  refine ⟨fun low s overlay held ended => congrArg Host.Outcome.next ?_, fun s unclosing => congrArg Host.Outcome.next ?_,
    fun s other => congrArg Host.Outcome.next ?_, fun s other => congrArg Host.Outcome.next ?_⟩
  · split_ifs with room
    · exact issueHeldFrameEnd_due overlay held ended room
    · exact issueHeldFrameEnd_not_due fun _ _ => Nat.not_lt.mp room
  · exact issueGeneratedFrameEnd_unclosing unclosing
  · exact issueHeldFrameEnd_not_due fun overlay ended =>
      other.elim (absurd overlay) (absurd ended)
  · exact issueGeneratedFrameEnd_other other

end InHand

/-! ## The ends of a frame -/

/-- Settles O19: the FRAME START put in hand, and the generated FRAME END by its own rule. -/
theorem frameStartEndsUnclosed : Obligations.FrameStartEndsUnclosed := by
  intro low pins s h drawing u
  have taken : exec (.frameStart low pins) s = .next (takeFrameStart low (s.setPins pins)) :=
    exec_takes (i := .frameStart low pins) rfl rfl h
  have phase : (clearArmed (s.setPins pins)).decoder.phase = .drawing := drawing
  rw [taken]
  unfold takeFrameStart
  dsimp only
  rw [phase]
  exact congrArg _ (issueGeneratedFrameEnd_unclosing (s := u) rfl)

/-- R124: where the emission begins. -/
theorem beginEmission_of_permission {s : State} (permitted : s.overlay.permission = true) :
    beginEmission s = if s.pen.state = .seen ∨ s.pen.state = .tracking then .cross 0
      else reach s.banks.menuLive 0 := by
  unfold beginEmission
  rw [permitted]
  rfl

/-- Settles O20: the emission by `beginEmission`, and the FRAME END by its own rule. -/
theorem frameEndTaken : Obligations.FrameEndTaken := by
  intro low s h e
  have taken : exec (.frameEnd low) s = .next (takeFrameEnd low s) := exec_takes rfl rfl h
  rw [taken]
  refine ⟨fun idle => ?_, fun drawing => ?_⟩
  · have phase : (clearArmed s).decoder.phase = .idle := idle
    have path : s.pathNow = .list [] none := if_neg (by simp [idle])
    unfold takeFrameEnd
    dsimp only
    rw [phase]
    refine congrArg _ ((issue_eq _ _ _).trans ?_)
    simp only [e, path]
    rfl
  · refine ⟨beginEmission s, fun forbidden => ?_, fun permitted seen => ?_,
      fun permitted unseen => ⟨fun i b inside present absent => ?_, fun absent => ?_⟩, ?_⟩
    · unfold beginEmission
      rw [forbidden]
      rfl
    · rw [beginEmission_of_permission permitted, if_pos seen]
    · rw [beginEmission_of_permission permitted, if_neg (by obtain e | e := unseen <;> simp [e])]
      exact reach_present (Nat.zero_le i) present fun k _ before => absent k before
    · rw [beginEmission_of_permission permitted, if_neg (by obtain e | e := unseen <;> simp [e])]
      exact reach_absent fun k inside _ => absent k inside
    · intro u v
      have phase : (clearArmed s).decoder.phase = .drawing := drawing
      have path : s.pathNow = .list (s.tags.records.map (·.entity)) (s.tags.records.getLast?.map (·.layer)) :=
        if_pos drawing
      have frame : s.frameNow = some s.decoder.frame := frameNow_of_open (by simp [drawing])
      have entry : e = u.frameEndEntry := by
        simp only [e, path, frame]
        rfl
      unfold takeFrameEnd
      dsimp only
      rw [phase]
      refine congrArg _ ?_
      change issueHeldFrameEnd u = _
      split_ifs with due
      · rw [issueHeldFrameEnd_due (s := u) (low := low) rfl rfl due.1 due.2, ← entry]
      · exact issueHeldFrameEnd_not_due fun _ ended =>
          Nat.not_lt.mp fun room => due ⟨ended, room⟩

/-! ## The emission (R102, R125 to R127) -/

section Emission
variable {s : State} {it : Item} {o : Origin}

/-- R127: an issue of the Overlay Generator with the window open. -/
theorem overlayIssue_room (item : emissionItem s s.overlay.emission = some (it, o))
    (room : s.trail.outstanding < 16) : overlayIssue s = issueHeldFrameEnd ((issue it o s).setOverlay
      { s.overlay with emission := nextEmission s.banks.menuLive s.overlay.emission }) := by
  unfold overlayIssue
  rw [item]
  exact if_pos (windowOpen_iff.mpr room)

theorem overlayIssue_full (full : 16 ≤ s.trail.outstanding) : overlayIssue s = s := by
  unfold overlayIssue
  split
  · rfl
  · exact if_neg fun room => Nat.not_lt.mpr full (windowOpen_iff.mp room)

/-- R127: an item that more follow. -/
theorem overlayIssue_inner {next : Emission} (item : emissionItem s s.overlay.emission = some (it, o))
    (follows : nextEmission s.banks.menuLive s.overlay.emission = next) (more : next ≠ .idle)
    (room : s.trail.outstanding < 16) :
    overlayIssue s = { s.issued
        { seq := s.trail.nextSeq, kind := it.kind, origin := o, start := s.decoder.beam,
          stop := it.stop, length := it.length, lit := it.lit, glyph := it.glyph,
          frame := s.frameNow, completed := false } it.words with
      overlay := { s.overlay with emission := next } } := by
  rw [overlayIssue_room item room, follows, issue_eq,
    issueHeldFrameEnd_not_due fun _ ended => absurd ended more]
  rfl

/-- Settles O22: the items of the cross one by one, each with more to follow. -/
theorem crossItemIssued : Obligations.CrossItemIssued := by
  intro n s inner cross
  have item : emissionItem s s.overlay.emission =
      some (crossItem s.banks.params s.tracking.centre s.decoder.beam n, .cross (crossArm n)) := by
    rw [cross]
    rfl
  have follows : nextEmission s.banks.menuLive s.overlay.emission = .cross (n + 1) := by
    rw [cross]
    exact if_pos (by omega)
  refine congrArg Host.Outcome.next ?_
  by_cases room : s.trail.outstanding < 16
  · rw [if_pos room, overlayIssue_inner item follows nofun room]
    interval_cases n <;> rfl
  · rw [if_neg room, overlayIssue_full (Nat.not_lt.mp room)]

theorem buttonItems_eq (b : Button) : buttonItems b = if b.label = [] then 5 else 7 := by
  unfold buttonItems
  simp only [List.isEmpty_iff]

theorem buttonIntensity_lit (b : Button) : (buttonIntensity b != 0) = true := by
  unfold buttonIntensity
  split_ifs <;> rfl

/-- R126: the items of a button before a label's GLYPH RUN. -/
theorem buttonItem_drawn (p : PerParam Nat) (beam : Point) (b : Button) (n : Nat) :
    let dest : Point := match n with
      | 1 => ⟨b.x + b.w, b.y⟩
      | 2 => ⟨b.x + b.w, b.y + b.h⟩
      | 3 => ⟨b.x, b.y + b.h⟩
      | 5 => ⟨b.x + 4, b.y + (b.h - 12) / 2⟩
      | _ => ⟨b.x, b.y⟩
    let far := max (absDiff beam.x dest.x) (absDiff beam.y dest.y)
    let move := n = 0 ∨ n = 5
    n < 6 → buttonItem p beam b n =
      { kind := if move then .move else .stroke, stop := dest,
        length := if move then far + p.settle else if beam = dest then p.dwell else far,
        lit := !decide move, glyph := none,
        words := if move then moveWords dest else strokeWords (buttonIntensity b) dest } := by
  dsimp only
  intro inner
  have lit := buttonIntensity_lit b
  obtain rfl | rfl | ⟨first, last⟩ : n = 0 ∨ n = 5 ∨ 1 ≤ n ∧ n ≤ 4 := by omega
  · rfl
  · rfl
  · interval_cases n <;> simp [buttonItem, strokeItem, lit, chebyshev]

/-! ## After the last item -/

theorem getElem?_drop_fromEnd {α : Type} (l : List α) {k m : Nat} (kept : k + m ≤ l.length) :
    (l.drop k)[(l.drop k).length - m]? = l[l.length - m]? := by
  rw [List.getElem?_drop, List.length_drop]
  congr 1
  omega

theorem Trail.append_length_le (t : Trail) (e : Entry) : (t.append e).entries.length ≤ 48 := by
  unfold Trail.append Config.trail
  rw [List.length_drop, List.length_append, List.length_singleton]
  omega

theorem Trail.append_newest (t : Trail) (e : Entry) :
    (t.append e).entries[(t.append e).entries.length - 1]? = some e := by
  have kept : t.entries.length + 1 - Config.trail + 1 ≤ (t.entries ++ [e]).length := by
    rw [List.length_append, List.length_singleton]
    unfold Config.trail
    omega
  unfold Trail.append
  dsimp only
  rw [getElem?_drop_fromEnd _ kept]
  simp

theorem Trail.append_second (t : Trail) (e f : Entry) :
    ((t.append e).append f).entries[((t.append e).append f).entries.length - 2]? = some e := by
  have newest := t.append_newest e
  have some_left : 0 < (t.append e).entries.length := by
    by_contra empty
    simp [List.eq_nil_of_length_eq_zero (Nat.eq_zero_of_not_pos empty)] at newest
  have short := t.append_length_le e
  generalize t.append e = u at newest some_left short ⊢
  unfold Trail.append
  dsimp only
  have kept : u.entries.length + 1 - Config.trail + 2 ≤ (u.entries ++ [f]).length := by
    rw [List.length_append, List.length_singleton]
    unfold Config.trail
    omega
  rw [getElem?_drop_fromEnd _ kept, List.length_append, List.length_singleton,
    List.getElem?_append_left (by omega)]
  exact newest

theorem issued_trail (s : State) (e : Entry) (words : List Word) :
    (s.issued e words).trail = s.trail.append e := by
  have dropped : s.trail.entries.length + 1 - Config.trail = s.trail.entries.length - 47 := by
    unfold Config.trail
    omega
  unfold State.issued Trail.append
  rw [dropped]

/-- R124, R127: with the last item of the cross or of a button the emission stands at the next button or has
ended, and with its end the FRAME END in hand is issued as the window allows. -/
theorem overlayIssue_last {low : Low} {next : Emission}
    (item : emissionItem s s.overlay.emission = some (it, o))
    (follows : nextEmission s.banks.menuLive s.overlay.emission = next)
    (room : s.trail.outstanding < 16) (overlay : s.decoder.phase = .overlay)
    (held : s.decoder.inHand = some (.frameEnd low)) :
    let t := overlayIssue s
    t.trail.entries[t.trail.entries.length - (t.trail.outstanding - s.trail.outstanding)]? =
      some (entryOf it o s) ∧ t.overlay.emission = next ∧
    (next ≠ .idle → t.decoder.phase = .overlay ∧ t.trail.outstanding = s.trail.outstanding + 1) ∧
    (next = .idle →
      t.decoder.phase = (if s.trail.outstanding < 15 then .closing else .overlay) ∧
      t.decoder.inHand = (if s.trail.outstanding < 15 then none else some (.frameEnd low)) ∧
      t.trail.outstanding = s.trail.outstanding + (if s.trail.outstanding < 15 then 2 else 1)) := by
  have one : s.trail.outstanding + 1 - s.trail.outstanding = 1 := by omega
  have two : s.trail.outstanding + 1 + 1 - s.trail.outstanding = 2 := by omega
  rw [overlayIssue_room item room, follows]
  by_cases due : next = .idle ∧ s.trail.outstanding < 15
  · obtain ⟨ended, more⟩ := due
    have more' : s.trail.outstanding + 1 < 16 := by omega
    rw [issueHeldFrameEnd_due (s := (issue it o s).setOverlay { s.overlay with emission := next })
      overlay held ended more']
    refine ⟨?_, rfl, absurd ended, fun _ => ?_⟩
    · dsimp only
      rw [issued_trail]
      have second := s.trail.append_second (entryOf it o s) (State.frameEndEntry
        ((issue it o s).setOverlay { s.overlay with emission := next }))
      rwa [← two] at second
    · rw [if_pos more, if_pos more, if_pos more]
      exact ⟨rfl, rfl, rfl⟩
  · rw [issueHeldFrameEnd_not_due fun _ ended =>
      show 16 ≤ s.trail.outstanding + 1 from not_lt.mp fun more => due ⟨ended, by omega⟩]
    refine ⟨?_, rfl, fun _ => ⟨overlay, rfl⟩, fun ended => ?_⟩
    · have newest := s.trail.append_newest (entryOf it o s)
      rwa [← one] at newest
    · have few : ¬s.trail.outstanding < 15 := fun more => due ⟨ended, more⟩
      simp only [if_neg few]
      exact ⟨overlay, held, rfl⟩

theorem entryOf_eq (it : Item) (o : Origin) (s : State) : entryOf it o s =
    { seq := s.trail.nextSeq, kind := it.kind, origin := o, start := s.decoder.beam, stop := it.stop,
      length := it.length, lit := it.lit, glyph := it.glyph, frame := s.frameNow,
      completed := false } := by
  rw [← frameMark_eq]
  rfl

/-- Settles O23: the items of a button one by one, and the last item of the cross or of a button. -/
theorem buttonItemIssued : Obligations.ButtonItemIssued := by
  refine ⟨fun i n b s button inner room => congrArg Host.Outcome.next ?_,
    fun first low s room last overlay held => ?_⟩
  · have item : emissionItem s s.overlay.emission =
        some (buttonItem s.banks.params s.decoder.beam b n, .menu i b.code b.enabled) := by
      rw [button]
      rfl
    have follows : nextEmission s.banks.menuLive s.overlay.emission = .button i b (n + 1) := by
      rw [button]
      exact if_pos (by rwa [buttonItems_eq])
    have drawn : n < 6 := by
      split_ifs at inner <;> omega
    rw [overlayIssue_inner item follows nofun room, buttonItem_drawn _ _ _ _ drawn]
    rfl
  · obtain ⟨it, o, item, follows⟩ : ∃ it o, emissionItem s s.overlay.emission = some (it, o) ∧
        nextEmission s.banks.menuLive s.overlay.emission = reach s.banks.menuLive first := by
      obtain ⟨cross, rfl⟩ | ⟨i, b, button, rfl⟩ := last
      · rw [cross]
        exact ⟨_, _, rfl, rfl⟩
      · rw [button]
        refine ⟨_, _, rfl, if_neg ?_⟩
        rw [buttonItems_eq]
        split_ifs <;> simp
    obtain ⟨newest, emission, more, ended⟩ := overlayIssue_last item follows room overlay held
    intro beam drawn line
    refine ⟨_, _, rfl, newest, fun cross => ?_, fun i b button _ => ?_, fun i b button labelled short => ?_,
      fun j b after inside present absent => ?_, fun absent => ?_⟩
    · rw [cross] at item
      cases item
      exact entryOf_eq _ _ s
    · rw [button] at item
      cases item
      rw [entryOf_eq, buttonItem_drawn _ _ _ _ (by decide)]
      rfl
    · rw [button] at item
      cases item
      have some_codes : 1 ≤ b.label.length := List.length_pos_iff.mpr labelled
      have item_eq : buttonItem s.banks.params s.decoder.beam b 6 =
        glyphItem s.banks.params s.decoder.beam 1 b.label.length (glyphRunWords 1 b.label) := rfl
      rw [entryOf_eq, item_eq, glyphItem_eq]
      simp [drawn, beam, some_codes, show b.label.length ≤ 32 by omega]
    · have reached := reach_present after present fun k from_ before => absent k before from_
      rw [reached] at emission more
      exact ⟨emission, more nofun⟩
    · have reached := reach_absent absent
      rw [reached] at emission ended
      exact ⟨emission, ended rfl⟩

end Emission

/-! ## Truncation (R128, R129) -/

section Sync
variable {s : State}

theorem sum_map_filter {α : Type} (l : List α) (p : α → Prop) [DecidablePred p] (f : α → Nat) :
    ((l.filter fun x => p x).map f).sum = (l.map fun x => if p x then f x else 0).sum := by
  induction l with
  | nil => rfl
  | cons x l ih =>
    by_cases keep : p x <;> simp [keep, ih]

/-- R128: the items of the buttons from a place on. -/
theorem itemsFrom_eq (t : MenuTable) (first : Nat) : itemsFrom t first =
    ((List.range 24).map fun j => if first ≤ j then
      ((placeAt t j).map fun b : Button => if b.label = [] then 5 else 7).getD 0 else 0).sum := by
  have items (j : Nat) : (match placeAt t j with | some b => buttonItems b | none => 0) =
      ((placeAt t j).map fun b : Button => if b.label = [] then 5 else 7).getD 0 := by
    cases placeAt t j with
    | none => rfl
    | some b => exact buttonItems_eq b
  unfold itemsFrom
  rw [sum_map_filter]
  refine congrArg List.sum (List.map_congr_left fun j _ => ?_)
  split_ifs
  · exact items j
  · rfl

theorem syncEffect_idle (idle : s.overlay.emission = .idle) : syncEffect s = s :=
  if_neg (by rw [idle]; nofun)

theorem exec_syncArrival (high : s.resetLow = false) : exec .syncArrival s = .next (syncEffect s) := by
  refine congrArg Host.Outcome.next ?_
  rw [high]
  rfl

/-- Settles O24: the emission ended, and the FRAME END in hand by its own rule. -/
theorem syncTruncates : Obligations.SyncTruncates := by
  refine ⟨fun s high emitting => ?_, fun s quiet => ?_⟩
  · intro serial items rest n u
    have count : dropped s.banks.menuLive s.overlay.emission = n := by
      dsimp only [n, rest, items]
      cases s.overlay.emission with
      | idle => rfl
      | cross k => exact congrArg (8 - k + ·) (itemsFrom_eq _ 0)
      | button i b k =>
        exact congrArg₂ (· - k + ·) (buttonItems_eq b) (itemsFrom_eq _ (i + 1))
    have effect : syncEffect s = issueHeldFrameEnd u := by
      unfold syncEffect
      rw [if_pos (emitting_iff.mpr emitting)]
      dsimp only
      rw [count]
      rfl
    rw [exec_syncArrival high, effect]
    refine ⟨fun low overlay held room => ?_, fun waits => ?_⟩
    · rw [issueHeldFrameEnd_due (s := u) overlay held rfl room]
      rfl
    · rw [issueHeldFrameEnd_not_due (s := u) fun overlay _ => waits.resolve_left (not_not.mpr overlay)]
  · obtain idle | low := quiet
    · by_cases low : s.resetLow = true
      · exact congrArg Host.Outcome.next (if_pos low)
      · rw [exec_syncArrival (Bool.eq_false_iff.mpr low), syncEffect_idle idle]
    · exact congrArg Host.Outcome.next (if_pos low)

end Sync

end Sys2Proof.Machine
end

section
/-! The notices of the notice channel but for completions that retire: hit notices (R43, R55 to R61), and the
notices that raise a LINK fault (R19). -/

namespace Sys2Proof.Machine

/-! ## Hit notices (R43) -/

section Hits
variable {q : BitVec 8} {el : BitVec 13} {n : Nat} {h : Entry} {s : State}

theorem exec_hitNotice (high : s.resetLow = false) :
    exec (.hitNotice q el) s = .next (hitEffect q.toNat el.toNat s) := by
  refine congrArg Host.Outcome.next ?_
  unfold notice
  rw [high]
  rfl

theorem frameOpen_iff : s.frameOpen = true ↔ s.decoder.phase ≠ .idle := bne_iff_ne

theorem hitEffect_closed {q e : Nat} (idle : s.decoder.phase = .idle) : hitEffect q e s = s :=
  if_pos (by simp [State.frameOpen, idle])

/-- R43: what the hit on an outstanding entry of the frame does, by what its correlation comes to. -/
def sightEffect (s : State) : Sight → State
  | .stale => staleHit (countNotice s)
  | .dark => countWith (fun c => { c with dark := bump c.dark }) (countNotice s)
  | .seen e p snapped => attributeHit e p snapped (countNotice s)

theorem hitEffect_open {q e : Nat} (busy : s.decoder.phase ≠ .idle) : hitEffect q e s =
    match s.trail.named q with
    | none => staleHit (countNotice s)
    | some (i, h) =>
      if h.frame = none then s
      else if h.completed then staleHit (countNotice s)
      else sightEffect s (correlate s.banks.params s.trail i h e) := by
  have opened : ¬(!s.frameOpen) = true := by simp [frameOpen_iff.mpr busy]
  unfold hitEffect
  rw [if_neg opened]
  rfl

theorem hitEffect_outstanding {e : Nat} (busy : s.decoder.phase ≠ .idle)
    (named : s.trail.named q.toNat = some (n, h)) (framed : h.frame ≠ none) (out : h.completed = false) :
    hitEffect q.toNat e s = sightEffect s (correlate s.banks.params s.trail n h e) := by
  rw [hitEffect_open busy, named]
  dsimp only
  rw [if_neg framed, if_neg (by simp [out])]

theorem correlate_landed {p : PerParam Nat} {t : Trail} {e : Nat} {a : Landing}
    (landed : landing p.lag e h (t.entries.take n).reverse = some a) :
    correlate p t n h e = resolveLanding p.snap a := by
  unfold correlate
  rw [landed]

theorem correlate_lost {p : PerParam Nat} {t : Trail} {e : Nat}
    (lost : landing p.lag e h (t.entries.take n).reverse = none) : correlate p t n h e = .stale := by
  unfold correlate
  rw [lost]

/-- Settles O32: the tests of R43 in order, and what the landing comes to. -/
theorem hitDiscardedOrStale : Obligations.HitDiscardedOrStale := by
  intro q e s high k up stale dark
  simp only [exec_hitNotice high]
  refine ⟨fun idle => congrArg _ (hitEffect_closed idle), fun busy => ⟨fun unnamed => congrArg _ ?_,
    fun n h named => ⟨fun unframed => congrArg _ ?_, fun framed done => congrArg _ ?_,
      fun framed out => ⟨fun lost => congrArg _ ?_, fun a landed unlit far => congrArg _ ?_⟩⟩⟩⟩
  · rw [hitEffect_open busy, unnamed]
    rfl
  · rw [hitEffect_open busy, named]
    exact if_pos unframed
  · rw [hitEffect_open busy, named]
    exact (if_neg framed).trans (if_pos done)
  · rw [hitEffect_outstanding busy named framed out, correlate_lost lost]
    rfl
  · rw [hitEffect_outstanding busy named framed out, correlate_landed landed]
    have dark : resolveLanding s.banks.params.snap a = .dark := by
      cases chosen : a.candidate with
      | none => exact resolveLanding_none unlit chosen
      | some c => exact (resolveLanding_some unlit chosen).trans (if_neg (Nat.not_le.mpr (far c chosen)))
    rw [dark]
    rfl

/-! ## Attribution (R56 to R61) -/

/-- R62: the frame's counters with the notice and, for a snapped hit, the snap counted. -/
def Counters.noticed (k : Counters) (snapped : Bool) : Counters :=
  { k with
    notices := bump k.notices, snapped := if snapped = true then bump k.snapped else k.snapped }

/-- R56: the hit classified once the notice and the snap are counted. -/
theorem attributeHit_countNotice (e : Entry) (p : Point) (snapped : Bool) (s : State) :
    attributeHit e p snapped (countNotice s) =
      let u := s.setCorr { s.corr with counters := s.corr.counters.noticed snapped }
      match e.origin with
      | .cross arm => crossHit arm p u
      | .menu index _ enabled => menuHit index enabled u
      | .list path layer => listHit e path layer p snapped u := by
  cases snapped <;> rfl

theorem inBand_eq_false_iff {p : Point} : s.inBand p = false ↔ ∀ b, s.banks.menuLive.band = some b →
    ¬(b.x ≤ p.x ∧ p.x ≤ b.x + b.w ∧ b.y ≤ p.y ∧ p.y ≤ b.y + b.h) := by
  unfold State.inBand
  cases s.banks.menuLive.band with
  | none => simp
  | some b =>
    rw [← Bool.not_eq_true]
    simp [Band.contains, and_assoc]

/-- R59: the filters a list hit passes. -/
theorem listHit_ignored {e : Entry} {path : List Nat} {layer : Option Nat} {p : Point} {snapped : Bool}
    (stopped : ¬∃ l, layer = some l ∧ path ≠ [] ∧ (layerEntry s.banks.layersLive l).pickable = true ∧
      s.inBand p = false) : listHit e path layer p snapped s =
      ignoreHit (countWith (fun c => { c with list := bump c.list }) (sighting p s)) := by
  unfold listHit
  dsimp only
  split
  · rfl
  · rfl
  next _ _ l =>
    split_ifs with bare banded
    · rfl
    · rfl
    · refine absurd ⟨l, rfl, nofun, by simpa using bare, ?_⟩ stopped
      exact Bool.eq_false_iff.mpr banded

theorem listHit_kept {e : Entry} {path : List Nat} {l : Nat} {p : Point} {snapped : Bool}
    (tagged : path ≠ []) (pickable : (layerEntry s.banks.layersLive l).pickable = true)
    (outside : s.inBand p = false) : listHit e path (some l) p snapped s =
      let u := countWith (fun c => { c with list := bump c.list }) (sighting p s)
      handOver (recordOf e path l p snapped (bump s.corr.arrivals))
        (u.setCorr { u.corr with arrivals := bump s.corr.arrivals }) := by
  obtain ⟨a, more, rfl⟩ := List.exists_cons_of_ne_nil tagged
  have bare : ¬(!(layerEntry s.banks.layersLive l).pickable) = true := by simp [pickable]
  have banded : ¬s.inBand p = true := by simp [outside]
  exact (if_neg bare).trans (if_neg banded)

/-- R57: a coordinate taken into an accumulator. -/
theorem Accumulator.take_eq (a : Accumulator) (v : Nat) : a.take v =
    ⟨min (a.count + 1) 65535, match a.span with
      | some sp => if a.count = 0 then some ⟨v, v⟩ else some ⟨min sp.least v, max sp.greatest v⟩
      | none => some ⟨v, v⟩⟩ := by
  unfold Accumulator.take
  cases a.span with
  | none => rfl
  | some sp =>
    dsimp only
    split_ifs <;> rfl

/-- R61: the sighting of an attributed hit. -/
theorem sighting_eq (p : Point) (s : State) : sighting p s = s.setCorr { s.corr with
    counters := { s.corr.counters with sightings := bump s.corr.counters.sightings },
    firstSighting := some (s.corr.firstSighting.getD p) } := by
  unfold sighting
  dsimp only
  rw [Option.or_some]

theorem menuHit_disabled {index : Nat} : menuHit index false s =
    ignoreHit (countWith (fun c => { c with menu := bump c.menu }) s) := rfl

theorem menuHit_enabled {index : Nat} :
    menuHit index true s = s.setCorr { s.corr with
      counters := { s.corr.counters with menu := bump s.corr.counters.menu },
      menu := s.corr.menu.setIfInBounds index (bump (menuCount s.corr index)) } := rfl

/-- R58: only the button's own count rises. -/
theorem menuCount_raised {c : Correlator} (index : Nat) {j : Nat} (inside : j < 24) :
    (c.menu.setIfInBounds index (bump (menuCount c index)))[j]? =
      (c.menu[j]?).map fun n => if true = true ∧ j = index then min (n + 1) 65535 else n := by
  by_cases same : j = index
  · subst same
    simp [inside, menuCount]
    rfl
  · simp [inside, same, Ne.symm same]

/-- Settles O33: the entry the hit comes to, and its origin. -/
theorem hitAttributed : Obligations.HitAttributed := by
  intro q el n h e p snapped a s high busy named framed out landed seen k up base first takes
  have resolved : resolveLanding s.banks.params.snap a = .seen e p snapped := by
    obtain ⟨lit, rfl, rfl, rfl⟩ | ⟨unlit, rfl, d, chosen, near⟩ := seen
    · exact if_pos lit
    · exact (resolveLanding_some unlit chosen).trans (if_pos near)
  have effect : hitEffect q.toNat el.toNat s = attributeHit e p snapped (countNotice s) := by
    rw [hitEffect_outstanding busy named framed out, correlate_landed landed, resolved]
    rfl
  rw [exec_hitNotice high, effect, attributeHit_countNotice]
  refine ⟨fun arm cross => congrArg _ ?_, fun index code enabled menu => ?_, fun path layer list => ?_⟩
  · rw [cross]
    dsimp only
    rw [crossHit, sighting_eq]
    cases arm <;> simp only [PerArm.take, Accumulator.take_eq] <;> rfl
  · rw [menu]
    cases enabled with
    | false =>
      refine ⟨s.corr.menu, rfl, fun j _ => ?_⟩
      simp
    | true => exact ⟨_, rfl, fun j inside => menuCount_raised (c := s.corr) index inside⟩
  · rw [list]
    intro counted keep
    refine ⟨fun stopped => congrArg _ ?_, ?_⟩
    · have stops : ¬∃ l, layer = some l ∧ path ≠ [] ∧ (layerEntry s.banks.layersLive l).pickable = true ∧
          s.inBand p = false := by
        simpa only [inBand_eq_false_iff] using stopped
      dsimp only
      rw [listHit_ignored (s := s.setCorr { s.corr with counters := s.corr.counters.noticed snapped }) stops,
        sighting_eq]
      rfl
    · rintro l ⟨_, layered, tagged, pickable, outside⟩ rfl
      cases layered
      dsimp only
      rw [listHit_kept (s := s.setCorr { s.corr with counters := s.corr.counters.noticed snapped })
        tagged pickable (inBand_eq_false_iff.mpr outside), sighting_eq]
      rfl

end Hits

/-! ## LINK faults (R19, R21) -/

section Link
variable {s : State}

theorem raiseLink_eq (c : LinkCause) : raiseLink c s =
    if s.decoder.linkFault = true then s else { s with
      decoder := { s.decoder with linkFault := true },
      lane := s.lane.enqueue (.faultLink (if s.decoder.phase = .idle then 0 else s.decoder.frame) c) } := by
  have frame : (if s.frameOpen = true then s.decoder.frame else 0) =
      if s.decoder.phase = .idle then 0 else s.decoder.frame := by
    unfold State.frameOpen
    cases s.decoder.phase <;> rfl
  unfold raiseLink
  dsimp only
  rw [frame]
  rfl

theorem unknownNotice_wellFormed {w : Word} (kind : bits w 31 30 = 0 ∨ bits w 31 30 = 3) :
    (Instr.unknownNotice w).wellFormed = true := by
  have top := w.isLt
  simp only [Instr.wellFormed, bits, Bool.or_eq_true, beq_iff_eq] at kind ⊢
  omega

/-- R19: a completion that names no outstanding entry has no other effect. -/
theorem takeCompletion_unplaceable {q : Nat} (done : ∀ n e, s.trail.named q = some (n, e) → e.completed = true) :
    takeCompletion q s = raiseLink (.notOutstanding q) s := by
  unfold takeCompletion State.placeable completeEffect
  cases named : s.trail.named q with
  | none => rfl
  | some p =>
    obtain ⟨n, e⟩ := p
    have completed := done n e named
    simp [completed]

/-- Settles O31: the one effect of each notice that cannot be placed. -/
theorem linkFaultRaised : Obligations.LinkFaultRaised := by
  unfold Obligations.LinkFaultRaised
  intro raised
  refine ⟨fun q pins s high line done => congrArg Host.Outcome.next ?_,
    fun w s kind => ?_, fun s low => ⟨fun q pins => congrArg Host.Outcome.next ?_,
      fun q e => congrArg Host.Outcome.next ?_⟩⟩
  · have taken : takeCompletion q.toNat (s.setPins pins) =
        raiseLink (.notOutstanding q.toNat) (s.setPins pins) := takeCompletion_unplaceable done
    have port : (raiseLink (.notOutstanding q.toNat) (s.setPins pins)).portLine = [] := by
      rw [raiseLink_portLine]
      exact line
    rw [notice, if_neg (by simp [high]), takeNotice, taken, drainPort_empty port, raiseLink_eq]
    rfl
  · refine (if_pos (unknownNotice_wellFormed kind)).trans (congrArg _ ?_)
    unfold notice
    split_ifs
    · rfl
    · exact raiseLink_eq _
  · exact if_pos low
  · exact if_pos low

end Link

end Sys2Proof.Machine
end

section
/-! SET PARAMETER, SET MODES and LAYER SET (R160, R161, R150): the pending changes of the Table Banks. -/

namespace Sys2Proof.Machine

/-! ## SET PARAMETER (R160) -/

section Parameter
variable {f : List Word} {s : State} {n : ParamName}

theorem paramLow_le_paramHigh (n : ParamName) : paramLow n ≤ paramHigh n := by
  cases n <;> decide

/-- R160: a value keeps itself exactly within the range. -/
theorem paramClamp_eq_self_iff {v : Nat} : paramClamp n v = v ↔ paramLow n ≤ v ∧ v ≤ paramHigh n := by
  have ordered := paramLow_le_paramHigh n
  unfold paramClamp
  omega

theorem setParameterOwner_unknown (unknown : paramOf (bits (fieldWord f 0) 31 16) = none) :
    setParameterOwner f s = refuse .range s := by
  rw [setParameterOwner, unknown]

theorem setParameterOwner_known (named : paramOf (bits (fieldWord f 0) 31 16) = some n) :
    setParameterOwner f s =
      let v := bits (fieldWord f 0) 15 0
      { state := s.setBanks { s.banks with
          pendingParams := s.banks.pendingParams.set n (some (paramClamp n v)) },
        status := if paramLow n ≤ v ∧ v ≤ paramHigh n then .accepted else .adjusted,
        payload := .param n (paramClamp n v) } := by
  rw [setParameterOwner, named]
  simp only [paramClamp_eq_self_iff]

theorem paramOf_unknown {c : Nat} (outside : c = 0 ∨ 12 < c) : paramOf c = none := by
  unfold paramOf
  split <;> simp_all

/-- Settles O39: the code names a parameter or none, and the value is clamped. -/
theorem setParameterTaken : Obligations.SetParameterTaken := by
  refine ⟨fun tag w s h => ?_, by decide, fun c => paramOf_unknown, fun p n m v => PerParam.set_get p n m v⟩
  have room : s.lane.queue.length < 32 := room_of_takes h rfl
  have taken : exec (.setParameter tag [w]) s =
      .next (takeOrder 0x01 tag true (setParameterOwner [w]) s) := exec_takes rfl rfl h
  rw [taken]
  refine congrArg _ ?_
  cases named : paramOf (bits w 31 16) with
  | none => exact takeOrder_plain room (setParameterOwner_unknown (f := [w]) named) rfl
  | some n => exact takeOrder_plain room (setParameterOwner_known (f := [w]) (s := s.unarmed) named) rfl

end Parameter

/-! ## SET MODES (R161, R152) -/

section Modes
variable {f : List Word} {w : Word} {s : State}

/-- R161: the settings of a mode. -/
theorem settingOf_eq {c : Nat} (two_bits : c < 4) :
    settingOf c = if c = 3 then none else some (if c = 0 then none else some (decide (c = 1))) := by
  interval_cases c <;> rfl

theorem bits_lt_four (w : Word) {hi lo : Nat} (wide : hi + 1 - lo = 2) : bits w hi lo < 4 := by
  unfold bits
  rw [wide]
  exact Nat.mod_lt _ (by decide)

theorem settingsOf_malformed
    (bad : bits w 7 6 = 3 ∨ bits w 5 4 = 3 ∨ bits w 3 2 = 3 ∨ bits w 1 0 = 3) :
    settingsOf w = none := by
  unfold settingsOf
  split
  next overlay hover summary pick =>
    obtain e | e | e | e := bad
    · rw [e] at overlay; cases overlay
    · rw [e] at hover; cases hover
    · rw [e] at summary; cases summary
    · rw [e] at pick; cases pick
  · rfl

theorem settingsOf_formed
    (good : ¬(bits w 7 6 = 3 ∨ bits w 5 4 = 3 ∨ bits w 3 2 = 3 ∨ bits w 1 0 = 3)) :
    let setting := fun c : Nat => if c = 0 then none else some (decide (c = 1))
    settingsOf w = some ⟨setting (bits w 7 6), setting (bits w 5 4), setting (bits w 3 2),
      setting (bits w 1 0)⟩ := by
  simp only [not_or] at good
  obtain ⟨o, h, m, p⟩ := good
  unfold settingsOf
  rw [settingOf_eq (bits_lt_four w rfl), settingOf_eq (bits_lt_four w rfl), settingOf_eq (bits_lt_four w rfl),
    settingOf_eq (bits_lt_four w rfl), if_neg o, if_neg h, if_neg m, if_neg p]

theorem setModesOwner_malformed (bad : settingsOf (fieldWord f 0) = none) :
    setModesOwner f s = refuse .badField s := by
  rw [setModesOwner, bad]

theorem setModesOwner_formed {m : PerMode (Option Bool)} (good : settingsOf (fieldWord f 0) = some m) :
    setModesOwner f s = if m.overlay = some true ∧ s.overlay.faultActive = true then
        refuse .faultActive s
      else accept (s.setBanks { s.banks with pendingModes := s.banks.pendingModes.merge m }) := by
  rw [setModesOwner, good]

/-- R152: a mode left alone keeps its pending value. -/
theorem or_setting (c : Nat) (was : Option Bool) :
    (if c = 0 then none else some (decide (c = 1))).or was =
      if c = 0 then was else some (decide (c = 1)) := by
  split_ifs <;> rfl

theorem setting_on_iff {c : Nat} :
    (if c = 0 then none else some (decide (c = 1))) = some true ↔ c = 1 := by
  split_ifs with zero
  · simp [zero]
  · simp

/-- SET MODES with a setting of 3, and with OVERLAY ON while the overlay fault is active. -/
theorem witness_setModes_refused :
    let s : State := { State.reset with overlay := { State.reset.overlay with faultActive := true } }
    s.takesAtOnce (.setModes 0 [0xC0]) ∧ bits (0xC0 : Word) 7 6 = 3 ∧
    s.takesAtOnce (.setModes 0 [0x40]) ∧ bits (0x40 : Word) 7 6 = 1 ∧
    s.overlay.faultActive = true := by decide

/-- Settles O40: the settings are all of the three or not, and the overlay fault stands or not. -/
theorem setModesTaken : Obligations.SetModesTaken := by
  intro tag w s h old mode
  have room : s.lane.queue.length < 32 := room_of_takes h rfl
  have taken : exec (.setModes tag [w]) s =
      .next (takeOrder 0x02 tag true (setModesOwner [w]) s) := exec_takes rfl rfl h
  rw [taken]
  refine congrArg _ ?_
  by_cases bad : bits w 7 6 = 3 ∨ bits w 5 4 = 3 ∨ bits w 3 2 = 3 ∨ bits w 1 0 = 3
  · rw [if_pos bad]
    exact takeOrder_plain room (setModesOwner_malformed (f := [w]) (settingsOf_malformed bad)) rfl
  · have owner := setModesOwner_formed (f := [w]) (s := s.unarmed) (settingsOf_formed bad)
    simp only [setting_on_iff] at owner
    rw [if_neg bad]
    by_cases active : bits w 7 6 = 1 ∧ s.overlay.faultActive = true
    · rw [if_pos active]
      exact takeOrder_plain room (owner.trans (if_pos active)) rfl
    · rw [if_neg active, takeOrder_plain room (owner.trans (if_neg active)) rfl]
      simp only [PerMode.merge, or_setting]
      rfl

end Modes

/-! ## LAYER SET (R150) -/

section Layer
variable {tag : BitVec 8} {w : Word} {s : State}

theorem layerSetOwner_eq : layerSetOwner [w] s =
    if 63 < bits w 31 24 then refuse .range s
    else if 15 < bits w 7 0 then refuse .badField s
    else if s.loads.layers = .swapPending then answer .wait s
    else accept (s.setBanks { s.banks with
      pendingLayers := s.banks.pendingLayers.setIfInBounds (bits w 31 24)
        (some ⟨bits w 15 15 == 1, bits w 14 14 == 1, bits w 7 0⟩) }) := by
  have invalid : (!(layerEntryOf w).valid) = true ↔ 15 < bits w 7 0 := by
    rw [Bool.not_eq_true', LayerEntry.valid, decide_eq_false_iff_not, not_le]
    rfl
  have field : fieldWord [w] 0 = w := rfl
  unfold layerSetOwner
  simp only [field, invalid]
  rfl

/-- A LAYER SET of layer 64, one with priority 16, and one while a layer swap is scheduled. -/
theorem witness_layerSet_refused :
    let s : State := { State.reset with loads := ⟨.swapPending, .none⟩ }
    s.takesAtOnce (.layerSet 0 [0x40000000]) ∧ bits (0x40000000 : Word) 31 24 = 64 ∧
    s.takesAtOnce (.layerSet 0 [0x00000010]) ∧ bits (0x00000010 : Word) 7 0 = 16 ∧
    s.takesAtOnce (.layerSet 0 [0x00000000]) := by decide

/-- Settles O41: the tests in the order of the owner, and one place of the pending sets written. -/
theorem layerSetTaken : Obligations.LayerSetTaken := by
  intro tag w s h
  have room : s.lane.queue.length < 32 := room_of_takes h rfl
  have taken : exec (.layerSet tag [w]) s =
      .next (takeOrder 0x03 tag true (layerSetOwner [w]) s) := exec_takes rfl rfl h
  have owner := layerSetOwner_eq (w := w) (s := s.unarmed)
  rw [taken]
  refine ⟨fun outside => ?_, fun inside bad => ?_, fun inside good pending => ?_, fun inside good free => ?_⟩
  · rw [if_pos outside] at owner
    exact congrArg _ (takeOrder_plain room owner rfl)
  · rw [if_neg (not_lt.mpr inside), if_pos bad] at owner
    exact congrArg _ (takeOrder_plain room owner rfl)
  · rw [if_neg (not_lt.mpr inside), if_neg (not_lt.mpr good), if_pos (by exact pending)] at owner
    exact congrArg _ (takeOrder_plain room owner rfl)
  · rw [if_neg (not_lt.mpr inside), if_neg (not_lt.mpr good), if_neg (by exact free)] at owner
    rw [takeOrder_plain room owner rfl]
    refine ⟨_, rfl, fun i below => ?_⟩
    rw [Vector.getElem?_setIfInBounds]
    by_cases same : i = bits w 31 24
    · rw [if_pos same.symm, if_pos same, if_pos (same ▸ below)]
    · rw [if_neg (Ne.symm same), if_neg same]
      rfl

end Layer

end Sys2Proof.Machine
end

section
/-! SUSPEND, RESUME and CANCEL DRAG (R116, R118, R119), RESET (R166, R168), the orders refused before any owner
(R159), and the queue beyond its capacity (R170). -/

namespace Sys2Proof.Machine

/-! ## The drag orders -/

section Drag
variable {tag code : BitVec 8} {d : Drag} {s : State}

/-- R156: an order that causes one report of another kind: it stands before the REPLY, or is lost. -/
theorem takeOrder_report {owner : State → Answer} {u : State} {st : Status} {p : Payload} {r : Report}
    (room : s.lane.queue.length < 32) (answers : owner s.unarmed = ⟨u, st, p, [r]⟩)
    (lane : u.lane = s.lane) : takeOrder code tag true owner s = { u with
      lane :=
        let l := if s.lane.queue.length < 31 then { s.lane with queue := s.lane.queue ++ [r] }
          else { s.lane with lost := min (s.lane.lost + 1) 65535 }
        { l with queue := l.queue ++
          [.reply tag code s.decoder.frame (s.decoder.phase != .idle) st p] } } := by
  change enqueue (.reply tag code s.decoder.frame (s.decoder.phase != .idle) (owner s.unarmed).status
    (owner s.unarmed).payload) ((owner s.unarmed).extra.foldl enqueueBeforeReply
      (owner s.unarmed).state) = _
  rw [answers]
  dsimp only [List.foldl_cons, List.foldl_nil]
  unfold enqueueBeforeReply Config.queue
  rw [lane]
  by_cases second : s.lane.queue.length < 31
  · have two : s.lane.queue.length + 1 < 32 := by omega
    have first : enqueue r u = u.setLane { s.lane with queue := s.lane.queue ++ [r] } := by
      rw [enqueue_room (by rwa [lane]), lane]
    rw [if_pos two, if_pos second, first, enqueue_room (by simpa using two)]
    rfl
  · rw [if_neg (by omega), if_neg second, enqueue_room (by exact room)]
    rfl

theorem suspendDragOwner_none (none_active : s.tracking.drag = none) :
    suspendDragOwner s = answer .ignored s := by
  rw [suspendDragOwner, none_active]

theorem suspendDragOwner_some (active : s.tracking.drag = some d) : suspendDragOwner s =
    if d.suspended = true then answer .ignored s
    else if s.decoder.frame = d.resumeFrame then answer .wait s
    else accept (s.setTracking { s.tracking with drag := some { d with suspended := true } }) := by
  rw [suspendDragOwner, active]

theorem resumeDragOwner_none (none_active : s.tracking.drag = none) :
    resumeDragOwner s = answer .ignored s := by
  rw [resumeDragOwner, none_active]

theorem resumeDragOwner_some (active : s.tracking.drag = some d) : resumeDragOwner s =
    if d.suspended = false then answer .ignored s
    else if d.releasePending = true then
      { state := s.setTracking { s.tracking with drag := none }, status := .accepted,
        extra := [dragEndNow .released d s] }
    else accept ((s.setTracking { s.tracking with
      drag := some { d with suspended := false, resumeFrame := s.decoder.frame } }).setPen
        { s.pen with loss := 0 }) := by
  rw [resumeDragOwner, active]
  simp only [Bool.not_eq_true']

theorem cancelDragOwner_none (none_active : s.tracking.drag = none) :
    cancelDragOwner s = answer .ignored s := by
  rw [cancelDragOwner, none_active]

theorem cancelDragOwner_some (active : s.tracking.drag = some d) : cancelDragOwner s =
    { state := s.setTracking { s.tracking with drag := none }, status := .accepted,
      extra := [dragEndNow .cancelled d s] } := by
  rw [cancelDragOwner, active]

/-- Settles O48: the drag record decides, and a drag that ends makes one report before the REPLY. -/
theorem dragOrdersTaken : Obligations.DragOrdersTaken := by
  intro tag s ended
  refine ⟨fun h => ?_, fun h => ?_, fun h => ?_⟩
  · have room : s.lane.queue.length < 32 := room_of_takes h rfl
    have taken : exec (.suspendDrag tag []) s =
        .next (takeOrder 0x0A tag true suspendDragOwner s) := exec_takes rfl rfl h
    rw [taken]
    refine congrArg _ ?_
    cases active : s.tracking.drag with
    | none => exact takeOrder_plain room (suspendDragOwner_none (s := s.unarmed) active) rfl
    | some d =>
      have owner := suspendDragOwner_some (s := s.unarmed) active
      dsimp only
      split_ifs with suspended same
      · exact takeOrder_plain room (owner.trans (if_pos suspended)) rfl
      · exact takeOrder_plain room (owner.trans ((if_neg suspended).trans (if_pos same))) rfl
      · exact takeOrder_plain room (owner.trans ((if_neg suspended).trans (if_neg same))) rfl
  · have room : s.lane.queue.length < 32 := room_of_takes h rfl
    have taken : exec (.resumeDrag tag []) s =
        .next (takeOrder 0x0B tag true resumeDragOwner s) := exec_takes rfl rfl h
    rw [taken]
    refine congrArg _ ?_
    cases active : s.tracking.drag with
    | none => exact takeOrder_plain room (resumeDragOwner_none (s := s.unarmed) active) rfl
    | some d =>
      have owner := resumeDragOwner_some (s := s.unarmed) active
      dsimp only
      split_ifs with going pending
      · exact takeOrder_plain room (owner.trans (if_pos going)) rfl
      · exact takeOrder_report room (owner.trans ((if_neg going).trans (if_pos pending))) rfl
      · exact takeOrder_plain room (owner.trans ((if_neg going).trans (if_neg pending))) rfl
  · have room : s.lane.queue.length < 32 := room_of_takes h rfl
    have taken : exec (.cancelDrag tag []) s =
        .next (takeOrder 0x0C tag true cancelDragOwner s) := exec_takes rfl rfl h
    rw [taken]
    refine congrArg _ ?_
    cases active : s.tracking.drag with
    | none => exact takeOrder_plain room (cancelDragOwner_none (s := s.unarmed) active) rfl
    | some d => exact takeOrder_report room (cancelDragOwner_some (s := s.unarmed) active) rfl

end Drag

/-! ## RESET -/

section Reset
variable {tag : BitVec 8} {s : State}

theorem drained_iff : s.drained = true ↔ s.trail.outstanding = 0 ∧
    (s.decoder.phase = .overlay → s.overlay.emission ≠ .idle) := by
  simp only [State.drained, State.frameEndWaits, Bool.and_eq_true, beq_iff_eq, Bool.not_eq_true',
    ← Bool.not_eq_true, emitting_iff, ne_eq, not_and, not_not]

theorem takeReset_unarmed (unarmed : s.orders.armed = false) :
    takeReset tag [] s = takeOrder 0x12 tag true (refuse .notArmed) s := by
  unfold takeReset
  rw [unarmed]
  rfl

theorem takeReset_armed (armed : s.orders.armed = true) : takeReset tag [] s =
    let u := s.setOrders { armed := false, inHand := some tag }
    if s.drained = true then performInBandReset tag u else u := by
  unfold takeReset
  rw [armed]
  rfl

/-- R168, R176: the in-band reset with nothing waiting at the port. -/
theorem performInBandReset_empty (line : s.portLine = []) :
    performInBandReset tag s = { State.reset with
      lane := { State.reset.lane with
        lane := s.lane.lane, queue := [.reply tag 0x12 0 false .accepted .absent] },
      pins := s.pins, resetLow := s.resetLow, lowArrivals := s.lowArrivals,
      freeIndex := s.freeIndex, pending := s.pending } := by
  have held : performInBandReset tag s = { State.reset with
      lane := { State.reset.lane with
        lane := s.lane.lane, queue := [.reply tag 0x12 0 false .accepted .absent] },
      pins := s.pins, resetLow := s.resetLow, portLine := s.portLine, lowArrivals := s.lowArrivals,
      freeIndex := s.freeIndex, pending := s.pending } := rfl
  rw [held, line]
  rfl

theorem performInBandReset_eq (high : s.resetLow = false) (line : s.portLine = []) :
    performInBandReset tag s = { State.reset with
      lane := { State.reset.lane with
        lane := s.lane.lane, queue := [.reply tag 0x12 0 false .accepted .absent] },
      pins := s.pins, freeIndex := s.freeIndex, lowArrivals := s.lowArrivals,
      pending := s.pending } := by
  rw [performInBandReset_empty line, high]
  rfl

/-- Settles O51: the arming decides, and the drain it begins may be at its end. -/
theorem resetTaken : Obligations.ResetTaken := by
  intro tag s h
  have taken : exec (.reset tag []) s = .next (takeReset tag [] s) := exec_takes rfl rfl h
  rw [taken]
  refine ⟨fun unarmed => congrArg _ ?_, fun armed out => congrArg _ ?_, fun armed empty ended => congrArg _ ?_⟩
  · rw [takeReset_unarmed unarmed]
    exact takeOrder_plain (u := s.unarmed) (room_of_takes h rfl) rfl rfl
  · rw [takeReset_armed armed]
    exact if_neg fun drained => out (drained_iff.mp drained).1
  · rw [takeReset_armed armed]
    exact (if_pos (drained_iff.mpr ⟨empty, ended⟩)).trans
      (performInBandReset_eq (s := s.setOrders { armed := false, inHand := some tag }) h.1 h.2.1)

end Reset

/-! ## Orders refused before any owner (R159) -/

section Refused
variable {i : Instr} {code tag : BitVec 8} {f : List Word} {s : State}

theorem isOrder_of_parts (parts : i.orderParts = some (code, tag, f)) : i.isOrder = true := by
  cases i <;> first | rfl | cases parts

/-- A code outside 1..18 is that of an unknown order. -/
theorem take_unknown (parts : i.orderParts = some (code, tag, f))
    (unknown : code.toNat = 0 ∨ 18 < code.toNat) :
    take i s = takeOrder code tag true (refuse .unknownOrder) s := by
  cases i with
  | unknownOrder c t g =>
    cases parts
    rfl
  | _ =>
    cases parts
    all_goals simp at unknown

theorem takeOrder_refused {ok : Bool} {owner : State → Answer} (room : s.lane.queue.length < 32)
    (bad : ok = false) : takeOrder code tag ok owner s = s.replied tag code (.refused .badField) .absent := by
  rw [bad, takeOrder_badLength room]

theorem tableOf_eq_menu_iff {w : Word} : tableOf w = some .menu ↔ bits w 31 24 = 2 := by
  refine ⟨fun menu => ?_, tableOf_menu⟩
  by_contra other
  by_cases one : bits w 31 24 = 1
  · rw [tableOf_layers one] at menu
    cases menu
  · rw [tableOf_unknown one other] at menu
    cases menu

theorem segmentLengthOk_eq_false (bad : ∀ w es, f = w :: es →
    es.length ≠ if bits w 31 24 = 2 then 6 * bits w 7 0 else bits w 7 0) : segmentLengthOk f = false := by
  cases f with
  | nil => rfl
  | cons w es =>
    have other := bad w es rfl
    simp only [segmentLengthOk, tableOf_eq_menu_iff]
    split_ifs at other ⊢ <;> simpa using other

/-- A known order of a length its code excludes reaches no owner. -/
theorem take_badLength (parts : i.orderParts = some (code, tag, f)) (ok : i.wellFormed = true)
    (room : s.lane.queue.length < 32)
    (bad : code.toNat ∈ ([1, 2, 3, 4, 7, 8, 9, 13, 14] : List Nat) ∧ f.length ≠ 1 ∨
      code.toNat ∈ ([10, 11, 12, 15, 16, 17, 18] : List Nat) ∧ f.length ≠ 0 ∨
      code.toNat = 5 ∧ f.length ≠ 1 ∧ f.length ≠ 3 ∨
      code.toNat = 6 ∧ (∀ w es, f = w :: es →
        es.length ≠ if bits w 31 24 = 2 then 6 * bits w 7 0 else bits w 7 0)) :
    take i s = s.replied tag code (.refused .badField) .absent := by
  cases i with
  | setParameter t g | setModes t g | layerSet t g | buttonSet t g | loadClose t g | loadAbort t g
  | placeCross t g | clearFault t g =>
    cases parts
    have other : (f.length == 1) = false := by simpa using bad
    exact takeOrder_refused room other
  | mark t g =>
    cases parts
    have other : (f.length == 1) = false := by simpa using bad
    unfold take takeMark
    exact takeOrder_refused room other
  | status t g | describe t g | resetEnable t g =>
    cases parts
    have some_words : (f.length == 0) = false := by simpa using bad
    simp only [take, takeStatus, takeDescribe, takeResetEnable]
    exact takeOrder_refused room some_words
  | suspendDrag t g | resumeDrag t g | cancelDrag t g =>
    cases parts
    have some_words : (f.length == 0) = false := by simpa using bad
    exact takeOrder_refused room some_words
  | reset t g =>
    cases parts
    have some_words : f.length ≠ 0 := by simpa using bad
    exact (if_pos some_words).trans (takeOrder_badLength room)
  | loadOpen t g =>
    cases parts
    have other : (f.length == 1 || f.length == 3) = false := by simpa using bad
    exact takeOrder_refused room other
  | loadSegment t g =>
    cases parts
    have other : segmentLengthOk f = false := segmentLengthOk_eq_false (by simpa using bad)
    exact takeOrder_refused room other
  | unknownOrder c t g =>
    cases parts
    simp only [Instr.wellFormed, knownOrder, Bool.and_eq_true, Bool.not_eq_true', Bool.and_eq_false_iff,
      decide_eq_false_iff_not] at ok
    simp only [List.mem_cons, List.not_mem_nil, or_false] at bad
    omega
  | _ => cases parts

/-- Settles O52: every order that fails a test of R159 is taken without its owner. -/
theorem refusedBeforeOwner : Obligations.RefusedBeforeOwner := by
  intro i code tag f s parts ok h one zero
  have order := isOrder_of_parts parts
  have room : s.lane.queue.length < 32 := room_of_takes h order
  have item : i.isStreamItem = true := by
    rw [Instr.isStreamItem, order, Bool.or_true]
  have pins : s.seenPins i = s.pins := by
    cases i <;> first | rfl | cases order
  have taken : exec i s = .next (take i s) := by
    rw [exec_takes item ok h, pins]
    rfl
  rw [taken]
  refine ⟨fun unknown => congrArg _ ?_, fun bad => congrArg _ ?_⟩
  · rw [take_unknown parts unknown]
    exact takeOrder_plain (u := s.unarmed) room rfl rfl
  · exact take_badLength parts ok room bad

end Refused

/-! ## The queue and the slots (R170, R171) -/

section Queue
variable {l : ReturnLane}

/-- Every report that a full queue cannot take is counted. -/
theorem ReturnLane.enqueueAll_full (full : 32 ≤ l.queue.length) (rs : List Report) (top : l.lost ≤ 65535) :
    l.enqueueAll rs = { l with lost := min (l.lost + rs.length) 65535 } := by
  induction rs generalizing l with
  | nil =>
    have same : min (l.lost + 0) 65535 = l.lost := Nat.min_eq_left top
    rw [List.length_nil, same]
    rfl
  | cons r rs ih =>
    have first : l.enqueueAll (r :: rs) = (l.enqueue r).enqueueAll rs := rfl
    have others := ih (l := { l with lost := min (l.lost + 1) 65535 }) full (Nat.min_le_right _ _)
    rw [first, ReturnLane.enqueue_full full, others, List.length_cons]
    congr 1
    dsimp only
    omega

theorem ReturnLane.enqueueAll_over {rs : List Report} (held : l.queue.length ≤ 32)
    (beyond : 32 ≤ l.queue.length + rs.length) (top : l.lost ≤ 65535) :
    l.enqueueAll rs = { l with
      queue := l.queue ++ rs.take (32 - l.queue.length),
      lost := min (l.lost + (l.queue.length + rs.length - 32)) 65535 } := by
  have parts : l.enqueueAll rs = (l.enqueueAll (rs.take (32 - l.queue.length))).enqueueAll
      (rs.drop (32 - l.queue.length)) := by
    conv_lhs => rw [← List.take_append_drop (32 - l.queue.length) rs]
    exact List.foldl_append
  have taken : (rs.take (32 - l.queue.length)).length = 32 - l.queue.length := by
    rw [List.length_take]
    omega
  have first := ReturnLane.enqueueAll_room (l := l) (rs := rs.take (32 - l.queue.length))
    (by rw [taken]; omega)
  have rest := ReturnLane.enqueueAll_full (l := { l with queue := l.queue ++ rs.take (32 - l.queue.length) })
    (by rw [List.length_append, taken]; omega) (rs.drop (32 - l.queue.length)) top
  rw [parts, first, rest, List.length_drop]
  congr 2
  dsimp only
  omega

/-- Settles O53: the queue by its room, the slots by the record they hold. -/
theorem enqueueAndFill : Obligations.EnqueueAndFill := by
  intro l r frame c d
  refine ⟨fun room => ReturnLane.enqueue_room room r, fun full => ReturnLane.enqueue_full full r,
    fun rs room => ReturnLane.enqueueAll_room room, fun rs held beyond top =>
      ReturnLane.enqueueAll_over held beyond top, ?_, ?_⟩
  · rw [← fillTrack_coalesced]
    rfl
  · rw [← fillDrag_coalesced]
    rfl

end Queue

end Sys2Proof.Machine
end

section
/-! BUTTON SET (R136, R137): the action on a place of the live menu table, the collision with the emission,
and the order's taking. -/

namespace Sys2Proof.Machine

section ButtonSet
variable {t : MenuTable} {i j code : Nat} {b : Button} {em : Emission} {w : Word} {s : State}

theorem buttonActionOf_eq_latch_iff : buttonActionOf code = .latch ↔ code = 2 := by
  unfold buttonActionOf
  split <;> simp_all

/-- R137: the button in emission is the one set, or one that a LATCH of a RADIO button unlatches. -/
theorem collides_iff : collides t em i b (buttonActionOf code) = true ↔
    ∃ j copy k, em = .button j copy k ∧
      (j = i ∨ ∃ c, placeAt t j = some c ∧ code = 2 ∧ b.kind = .radio ∧ j ≠ i ∧ c.kind = .radio ∧
        c.group = b.group ∧ c.latched = true) := by
  cases em with
  | button j copy k =>
    simp only [collides, Bool.or_eq_true, Bool.and_eq_true, beq_iff_eq, buttonActionOf_eq_latch_iff,
      latchedOther_iff]
    constructor
    · rintro (same | ⟨⟨latch, radio⟩, c, present, apart, kind, group, on⟩)
      · exact ⟨j, copy, k, rfl, .inl same⟩
      · exact ⟨j, copy, k, rfl, .inr ⟨c, present, latch, radio, apart, kind, group, on⟩⟩
    · rintro ⟨_, _, _, ⟨⟩, same | ⟨c, present, latch, radio, apart, kind, group, on⟩⟩
      · exact .inl same
      · exact .inr ⟨⟨latch, radio⟩, c, present, apart, kind, group, on⟩
  | _ => simp [collides]

theorem placeAt_changeButton_map (f : Button → Button) :
    placeAt (changeButton t i f) j = (placeAt t j).map fun c => if j = i then f c else c := by
  rw [placeAt_changeButton]
  split_ifs with same
  · rw [same]
  · simp

/-- R136: what each action leaves at each place. -/
theorem placeAt_applyAction : placeAt (applyAction t i b (buttonActionOf code)) j =
    (placeAt t j).map fun c =>
      if j = i then
        if code = 0 then { c with enabled := true }
        else if code = 1 then { c with enabled := false }
        else { c with latched := decide (code = 2) }
      else if code = 2 ∧ b.kind = .radio ∧ j ≠ i ∧ c.kind = .radio ∧ c.group = b.group ∧
          c.latched = true then { c with latched := false }
      else c := by
  unfold buttonActionOf
  split
  · simp [applyAction, placeAt_changeButton_map]
  · simp [applyAction, placeAt_changeButton_map]
  · rw [applyAction, placeAt_latch]
    cases at_j : placeAt t j with
    | none => rfl
    | some c =>
      have unlatched : latchedOther t i b j = true ↔
          j ≠ i ∧ c.kind = .radio ∧ c.group = b.group ∧ c.latched = true := by
        simp [latchedOther_iff, at_j]
      simp [unlatched]
  next not_enable not_disable not_latch =>
    rw [applyAction, placeAt_changeButton_map]
    simp [show code ≠ 0 from not_enable, show code ≠ 1 from not_disable, show code ≠ 2 from not_latch]

theorem applyAction_places (a : ButtonAction) :
    applyAction t i b a = { t with places := (applyAction t i b a).places } := by
  cases a <;> rfl

theorem buttonSetOwner_pending (pending : s.loads.menu = .swapPending) :
    buttonSetOwner [w] s = answer .wait s := if_pos pending

theorem buttonSetOwner_absent (free : s.loads.menu ≠ .swapPending)
    (absent : placeAt s.banks.menuLive (bits w 15 8) = none) : buttonSetOwner [w] s = refuse .range s := by
  refine (if_neg free).trans ?_
  have field : fieldWord [w] 0 = w := rfl
  rw [field, absent]

theorem buttonSetOwner_present (free : s.loads.menu ≠ .swapPending)
    (present : placeAt s.banks.menuLive (bits w 15 8) = some b) : buttonSetOwner [w] s =
      if bits w 1 0 = 2 ∧ b.kind = .momentary then refuse .range s
      else if collides s.banks.menuLive s.overlay.emission (bits w 15 8) b (buttonActionOf (bits w 1 0)) then
        answer .collided s
      else accept (s.setBanks { s.banks with
        menuLive := applyAction s.banks.menuLive (bits w 15 8) b (buttonActionOf (bits w 1 0)) }) := by
  refine (if_neg free).trans ?_
  have field : fieldWord [w] 0 = w := rfl
  rw [field, present]
  simp only [buttonActionOf_eq_latch_iff]

/-- Settles O42: the session, the place, the kind and the emission decide, in that order. -/
theorem buttonSetTaken : Obligations.ButtonSetTaken := by
  intro tag w s h i action
  have room : s.lane.queue.length < 32 := room_of_takes h rfl
  have taken : exec (.buttonSet tag [w]) s =
      .next (takeOrder 0x04 tag true (buttonSetOwner [w]) s) := exec_takes rfl rfl h
  rw [taken]
  refine ⟨fun pending => congrArg _ ?_, fun free absent => congrArg _ ?_, fun b free present => ?_⟩
  · exact takeOrder_plain room (buttonSetOwner_pending (s := s.unarmed) pending) rfl
  · exact takeOrder_plain room (buttonSetOwner_absent (s := s.unarmed) free absent) rfl
  · intro unlatches collision
    have owner := buttonSetOwner_present (s := s.unarmed) free present
    have collision_iff : collides s.banks.menuLive s.overlay.emission i b (buttonActionOf action) = true ↔
        collision := collides_iff
    refine ⟨fun latch momentary => congrArg _ ?_, fun allowed met => congrArg _ ?_, fun allowed clear => ?_⟩
    · exact takeOrder_plain room (owner.trans (if_pos ⟨latch, momentary⟩)) rfl
    · exact takeOrder_plain room
        (owner.trans ((if_neg allowed).trans (if_pos (collision_iff.mpr met)))) rfl
    · rw [takeOrder_plain room
        (owner.trans ((if_neg allowed).trans (if_neg fun met => clear (collision_iff.mp met)))) rfl]
      refine ⟨(applyAction s.banks.menuLive i b (buttonActionOf action)).places, ?_, fun j inside => ?_⟩
      · rw [← applyAction_places]
        rfl
      · rw [places_getElem? inside, places_getElem? inside, placeAt_applyAction]
        rfl

end ButtonSet

end Sys2Proof.Machine
end

section
/-! LOAD OPEN (R142): the table a word names, the tests in their order, and the session opened over a cleared
shadow bank. -/

namespace Sys2Proof.Machine

/-! ## The named table -/

section Named
variable {w : Word} {t : Table}

/-- The table codes. -/
def Table.code : Table → Nat
  | .layers => 1
  | .menu => 2

theorem tableOf_eq_some_iff : tableOf w = some t ↔ bits w 31 24 = t.code := by
  cases t with
  | layers =>
    refine ⟨fun named => ?_, tableOf_layers⟩
    by_contra other
    by_cases two : bits w 31 24 = 2
    · rw [tableOf_menu two] at named
      cases named
    · rw [tableOf_unknown other two] at named
      cases named
  | menu => exact tableOf_eq_menu_iff

theorem named_of_known (known : bits w 31 24 = 1 ∨ bits w 31 24 = 2) :
    ∃ t, tableOf w = some t ∧ bits w 31 24 = t.code := by
  obtain one | two := known
  · exact ⟨.layers, tableOf_layers one, one⟩
  · exact ⟨.menu, tableOf_menu two, two⟩

theorem get_of_code (l : Loads) (code : bits w 31 24 = t.code) :
    (if bits w 31 24 = 1 then l.layers else l.menu) = l.get t := by
  rw [code]
  cases t <;> rfl

theorem countInRange_iff {count : Nat} (code : bits w 31 24 = t.code) : countInRange t count = true ↔
    if bits w 31 24 = 1 then 1 ≤ count ∧ count ≤ 64 else count ≤ 24 := by
  rw [code]
  cases t <;> simp [countInRange, Table.code]

end Named

/-! ## The tests -/

section LoadOpen
variable {tag : BitVec 8} {w : Word} {more : List Word} {t : Table} {s : State}

/-- R121, R142: the band of the order, if its words are there. -/
def givenBand (more : List Word) : Option Band :=
  if more.length = 2 then some (bandOf (more.getD 0 0) (more.getD 1 0)) else none

theorem Band.valid_iff {b : Band} : b.valid = true ↔ 1 ≤ b.w ∧ b.w ≤ 4095 ∧ 1 ≤ b.h ∧ b.h ≤ 4095 ∧
    b.x + b.w ≤ 4095 ∧ b.y + b.h ≤ 4095 := by
  simp only [Band.valid, Bool.and_eq_true, decide_eq_true_eq, and_assoc]

theorem badBand_iff {band : Option Band} (code : bits w 31 24 = t.code) :
    (band.isSome && (t == .layers || !(band.any Band.valid))) = true ↔
      ¬∀ b, band = some b → bits w 31 24 = 2 ∧ 1 ≤ b.w ∧ b.w ≤ 4095 ∧ 1 ≤ b.h ∧ b.h ≤ 4095 ∧
        b.x + b.w ≤ 4095 ∧ b.y + b.h ≤ 4095 := by
  rw [code]
  cases band with
  | none => simp
  | some b =>
    cases t with
    | layers => simp [Table.code]
    | menu =>
      have bad : ((some b).isSome && (Table.menu == .layers || !(some b).any Band.valid)) = true ↔
          ¬b.valid = true := by simp
      rw [bad, Band.valid_iff]
      simp [Table.code]

theorem loadOpenOwner_unknown (unknown : tableOf w = none) :
    loadOpenOwner (w :: more) s = refuse .range s := by
  have field : tableOf (fieldWord (w :: more) 0) = none := unknown
  rw [loadOpenOwner, field]

theorem loadOpenOwner_pending (named : tableOf w = some t) (session : s.loads.get t = .swapPending) :
    loadOpenOwner (w :: more) s = answer .wait s := by
  have field : fieldWord (w :: more) 0 = w := rfl
  simp only [loadOpenOwner, field, named, session]

theorem loadOpenOwner_opened {c k : Nat} {l : List Nat} (named : tableOf w = some t)
    (session : s.loads.get t = .opened c k l) : loadOpenOwner (w :: more) s = refuse .sessionOpen s := by
  have field : fieldWord (w :: more) 0 = w := rfl
  simp only [loadOpenOwner, field, named, session]

theorem loadOpenOwner_closed (named : tableOf w = some t) (session : s.loads.get t = .none) :
    loadOpenOwner (w :: more) s =
      if ¬countInRange t (bits w 23 16) = true then refuse .range s
      else if (givenBand more).isSome && (t == .layers || !((givenBand more).any Band.valid)) then
        refuse .badField s
      else accept (setSession t (.opened (bits w 23 16) (bits w 15 0) [])
        (clearShadow t (givenBand more) s)) := by
  have field : fieldWord (w :: more) 0 = w := rfl
  have band : (if (w :: more).length = 3 then
      some (bandOf (fieldWord (w :: more) 1) (fieldWord (w :: more) 2)) else none) = givenBand more := by
    simp [givenBand, fieldWord]
  simp only [loadOpenOwner, field, band, named, session, Bool.not_eq_true', Bool.not_eq_true]

theorem exec_loadOpen_takes (lengths : more.length = 0 ∨ more.length = 2)
    (h : s.takesAtOnce (.loadOpen tag (w :: more))) : exec (.loadOpen tag (w :: more)) s =
      .next (takeOrder 0x05 tag true (loadOpenOwner (w :: more)) s) := by
  have short : (Instr.loadOpen tag (w :: more)).wellFormed = true := by
    simp only [Instr.wellFormed, List.length_cons, decide_eq_true_eq]
    omega
  have admitted : ((w :: more).length == 1 || (w :: more).length == 3) = true := by
    simpa using lengths
  have taken : exec (.loadOpen tag (w :: more)) s = .next (takeOrder 0x05 tag
      ((w :: more).length == 1 || (w :: more).length == 3) (loadOpenOwner (w :: more)) s) :=
    exec_takes rfl short h
  rw [taken, admitted]

/-- LOAD OPEN of table 3, of 65 layers, of a menu with a band of width 0, and of the layers with a band. -/
theorem witness_loadOpen_refused : let s := State.reset
    s.takesAtOnce (.loadOpen 0 [0x03000000]) ∧ s.takesAtOnce (.loadOpen 0 [0x01410000]) ∧
    s.takesAtOnce (.loadOpen 0 [0x02010000, 0, 0x00000001]) ∧
    s.takesAtOnce (.loadOpen 0 [0x01010000, 0, 0x00010001]) := by decide

/-- Settles O43: the tests in the order of the owner. -/
theorem loadOpenTaken : Obligations.LoadOpenTaken := by
  intro tag w more s lengths h run count sum given reply session known fits good
  have room : s.lane.queue.length < 32 := room_of_takes h rfl
  have run_eq : run = .next (takeOrder 0x05 tag true (loadOpenOwner (w :: more)) s) :=
    exec_loadOpen_takes lengths h
  have answered {st : Status} (owner : loadOpenOwner (w :: more) s.unarmed = ⟨s.unarmed, st, .absent, []⟩) :
      run = .next (reply st) := by
    rw [run_eq, takeOrder_plain room owner rfl]
    rfl
  refine ⟨fun unknown => ?_, fun known pending => ?_, fun known opened => ?_, fun known closed outside => ?_,
    fun known closed inside bad => ?_, fun closed inside fine => ⟨fun one => ?_, fun two => ?_⟩⟩
  · obtain ⟨not_one, not_two⟩ := not_or.mp unknown
    exact answered (loadOpenOwner_unknown (tableOf_unknown not_one not_two))
  · obtain ⟨t, named, code⟩ := named_of_known known
    exact answered (loadOpenOwner_pending named ((get_of_code s.loads code).symm.trans pending))
  · obtain ⟨t, named, code⟩ := named_of_known known
    obtain ⟨c, k, l, opened⟩ := opened
    exact answered (loadOpenOwner_opened named ((get_of_code s.loads code).symm.trans opened))
  · obtain ⟨t, named, code⟩ := named_of_known known
    have none := (get_of_code s.loads code).symm.trans closed
    refine answered ((loadOpenOwner_closed (s := s.unarmed) (more := more) named none).trans (if_pos ?_))
    exact fun range => outside ((countInRange_iff code).mp range)
  · obtain ⟨t, named, code⟩ := named_of_known known
    have none := (get_of_code s.loads code).symm.trans closed
    refine answered ((loadOpenOwner_closed (s := s.unarmed) (more := more) named none).trans ((if_neg ?_).trans (if_pos ?_)))
    · exact not_not.mpr ((countInRange_iff code).mpr inside)
    · exact (badBand_iff code).mpr bad
  · have code : bits w 31 24 = Table.layers.code := one
    have none := (get_of_code s.loads code).symm.trans closed
    have owner := (loadOpenOwner_closed (s := s.unarmed) (more := more) (tableOf_layers one) none).trans
      ((if_neg (not_not.mpr ((countInRange_iff code).mpr inside))).trans
        (if_neg fun bad => (badBand_iff code).mp bad fine))
    rw [run_eq, takeOrder_plain room owner rfl]
    rfl
  · have code : bits w 31 24 = Table.menu.code := two
    have none := (get_of_code s.loads code).symm.trans closed
    have owner := (loadOpenOwner_closed (s := s.unarmed) (more := more) (tableOf_menu two) none).trans
      ((if_neg (not_not.mpr ((countInRange_iff code).mpr inside))).trans
        (if_neg fun bad => (badBand_iff code).mp bad fine))
    rw [run_eq, takeOrder_plain room owner rfl]
    rfl

end LoadOpen

end Sys2Proof.Machine
end

section
/-! The words of the table entries (R178): a layer entry's word and a button place's six words, read back by
the layout of Chapter 11, and the rules of a button's fields (R143.5). -/

namespace Sys2Proof.Machine

/-! ## Layer entries -/

section LayerWord
variable {e : LayerEntry}

theorem layerWord_toNat (h : e.priority ≤ 15) : (layerWord e).toNat =
    (if e.pickable = true then 32768 else 0) + (if e.draggable = true then 16384 else 0) + e.priority := by
  simp only [layerWord, putFlag, put, BitVec.toNat_ofNat]
  split_ifs <;> omega

theorem layerWord_fields (h : e.priority ≤ 15) : bits (layerWord e) 31 16 = 0 ∧
    bits (layerWord e) 15 15 = e.pickable.toNat ∧ bits (layerWord e) 14 14 = e.draggable.toNat ∧
    bits (layerWord e) 7 0 = e.priority := by
  simp only [bits, layerWord_toNat h]
  cases e.pickable <;> cases e.draggable <;> simp <;> omega

theorem flag_eq_of_field {w : Word} {i : Nat} {b : Bool} (h : bits w i i = b.toNat) : flag w i = b := by
  rw [flag, h]
  cases b <;> rfl

theorem layerEntryOf_layerWord (h : e.priority ≤ 15) : layerEntryOf (layerWord e) = e := by
  obtain ⟨-, pickable, draggable, priority⟩ := layerWord_fields h
  rw [layerEntryOf, flag_eq_of_field pickable, flag_eq_of_field draggable, priority]

end LayerWord

/-! ## The words of a button -/

section ButtonWords
variable {b : Button}

/-- Word 0 of a present button place. -/
def Button.headWord (b : Button) : Word :=
  BitVec.ofNat 32 (putFlag true 31 + put b.code 23 16 + put b.label.length 15 12 + put b.group 10 8
    + put (buttonKindCode b.kind) 5 4 + putFlag b.enabled 1 + putFlag b.latched 0)

/-- Word 1 of a present button place. -/
def Button.cornerWord (b : Button) : Word := BitVec.ofNat 32 (put b.x 27 16 + put b.y 11 0)

/-- Word 2 of a present button place. -/
def Button.sizeWord (b : Button) : Word := BitVec.ofNat 32 (put b.w 26 16 + put b.h 10 0)

theorem placeWords_some : placeWords (some b) = [b.headWord, b.cornerWord, b.sizeWord, codesWord b.label,
    codesWord (b.label.drop 4), codesWord (b.label.drop 8)] := rfl

theorem buttonKindCode_le (k : ButtonKind) : buttonKindCode k ≤ 2 := by cases k <;> decide

theorem headWord_toNat (code : b.code < 256) (group : b.group < 8) (label : b.label.length ≤ 12) :
    b.headWord.toNat = 2147483648 + 65536 * b.code + 4096 * b.label.length + 256 * b.group
      + 16 * buttonKindCode b.kind + 2 * b.enabled.toNat + b.latched.toNat := by
  have kind := buttonKindCode_le b.kind
  simp only [Button.headWord, putFlag, put, BitVec.toNat_ofNat]
  cases b.enabled <;> cases b.latched <;> simp <;> omega

/-- The fields of word 0, and 0 in every other bit. -/
theorem headWord_fields (code : b.code < 256) (group : b.group < 8) (label : b.label.length ≤ 12) :
    bits b.headWord 31 31 = 1 ∧ bits b.headWord 30 24 = 0 ∧ bits b.headWord 23 16 = b.code ∧
    bits b.headWord 15 12 = b.label.length ∧ bits b.headWord 11 11 = 0 ∧
    bits b.headWord 10 8 = b.group ∧ bits b.headWord 7 6 = 0 ∧
    bits b.headWord 5 4 = buttonKindCode b.kind ∧ bits b.headWord 3 2 = 0 ∧
    bits b.headWord 1 1 = b.enabled.toNat ∧ bits b.headWord 0 0 = b.latched.toNat := by
  have kind := buttonKindCode_le b.kind
  have enabled := Bool.toNat_le b.enabled
  have latched := Bool.toNat_le b.latched
  simp only [bits, headWord_toNat code group label]
  omega

theorem Button.valid_iff : b.valid = true ↔ b.code ≠ 0 ∧ (b.kind = .radio ↔ b.group ≠ 0) ∧
    ¬(b.kind = .momentary ∧ b.latched = true) ∧ 16 ≤ b.w ∧ b.w ≤ 1024 ∧ 16 ≤ b.h ∧ b.h ≤ 1024 ∧
    b.x + b.w ≤ 4095 ∧ b.y + b.h ≤ 4095 := by
  have grouped : (if b.kind = .radio then b.group != 0 else b.group == 0) = true ↔
      (b.kind = .radio ↔ b.group ≠ 0) := by
    split_ifs with radio <;> simp [radio]
  simp only [Button.valid, Bool.and_eq_true, grouped, decide_eq_true_eq, bne_iff_ne, ne_eq,
    Bool.not_eq_true', Bool.and_eq_false_iff, beq_eq_false_iff_ne, and_assoc, not_and_or,
    Bool.not_eq_true]

theorem cornerWord_fields (h : b.valid = true) : bits b.cornerWord 31 28 = 0 ∧
    bits b.cornerWord 27 16 = b.x ∧ bits b.cornerWord 15 12 = 0 ∧ bits b.cornerWord 11 0 = b.y := by
  obtain ⟨-, -, -, -, -, -, -, right, top⟩ := Button.valid_iff.mp h
  simp only [bits, Button.cornerWord, put, BitVec.toNat_ofNat]
  omega

theorem sizeWord_fields (h : b.valid = true) : bits b.sizeWord 31 27 = 0 ∧
    bits b.sizeWord 26 16 = b.w ∧ bits b.sizeWord 15 11 = 0 ∧ bits b.sizeWord 10 0 = b.h := by
  obtain ⟨-, -, -, -, wide, -, high, -⟩ := Button.valid_iff.mp h
  simp only [bits, Button.sizeWord, put, BitVec.toNat_ofNat]
  omega

end ButtonWords

/-! ## Character codes -/

section Codes
variable {cs : List (BitVec 8)} {k : Nat}

theorem codesWord_byte (h : k < 4) :
    bits (codesWord cs) (31 - 8 * k) (24 - 8 * k) = (cs.getD k 0).toNat := by
  have h0 := (cs.getD 0 0).isLt
  have h1 := (cs.getD 1 0).isLt
  have h2 := (cs.getD 2 0).isLt
  have h3 := (cs.getD 3 0).isLt
  simp only [bits, codesWord, put, BitVec.toNat_ofNat]
  interval_cases k <;> omega

theorem codesOf_byte {w : Word} (h : k < 4) :
    ((codesOf w).getD k 0).toNat = bits w (31 - 8 * k) (24 - 8 * k) := by
  simp only [bits]
  interval_cases k <;> simp [codesOf, Nat.shiftRight_eq_div_pow]

theorem getD_drop (m : Nat) : (cs.drop m).getD k 0 = cs.getD (m + k) 0 := by
  rw [List.getD, List.getD, List.getElem?_drop]

theorem codesOf_codesWord : codesOf (codesWord cs) = [cs.getD 0 0, cs.getD 1 0, cs.getD 2 0, cs.getD 3 0] := by
  have byte {k : Nat} (h : k < 4) : (codesOf (codesWord cs)).getD k 0 = cs.getD k 0 :=
    BitVec.eq_of_toNat_eq ((codesOf_byte h).trans (codesWord_byte h))
  calc codesOf (codesWord cs)
    _ = [(codesOf (codesWord cs)).getD 0 0, (codesOf (codesWord cs)).getD 1 0,
          (codesOf (codesWord cs)).getD 2 0, (codesOf (codesWord cs)).getD 3 0] := rfl
    _ = _ := by rw [byte (by decide), byte (by decide), byte (by decide), byte (by decide)]

/-- The twelve label positions of a place's words. -/
def labelCodes (ws : List Word) : List (BitVec 8) :=
  codesOf (fieldWord ws 3) ++ codesOf (fieldWord ws 4) ++ codesOf (fieldWord ws 5)

theorem labelCodes_byte {ws : List Word} {j : Nat} (h : j < 12) : ((labelCodes ws).getD j 0).toNat =
    bits (ws.getD (3 + j / 4) 0) (31 - 8 * (j % 4)) (24 - 8 * (j % 4)) := by
  have position : (labelCodes ws).getD j 0 = (codesOf (ws.getD (3 + j / 4) 0)).getD (j % 4) 0 := by
    interval_cases j <;> rfl
  rw [position, codesOf_byte (Nat.mod_lt j (by decide))]

theorem labelCodes_placeWords {b : Button} (short : b.label.length ≤ 12) :
    (labelCodes (placeWords (some b))).take b.label.length = b.label := by
  have codes : labelCodes (placeWords (some b)) = (List.range 12).map (b.label.getD · 0) := by
    have words : labelCodes (placeWords (some b)) = codesOf (codesWord b.label) ++
        codesOf (codesWord (b.label.drop 4)) ++ codesOf (codesWord (b.label.drop 8)) := rfl
    rw [words]
    simp only [codesOf_codesWord, getD_drop]
    rfl
  refine List.ext_getElem? fun j => ?_
  by_cases inside : j < b.label.length
  · rw [List.getElem?_take_of_lt inside, codes, List.getElem?_map, List.getElem?_range (by omega)]
    simp [inside]
  · rw [List.getElem?_eq_none (by simp; omega), List.getElem?_eq_none (by omega)]

end Codes

/-! ## Button places -/

section Places
variable {ws : List Word} {kind : ButtonKind}

/-- The button a present place's words spell, whether it keeps the rules or not. -/
def spelled (ws : List Word) (kind : ButtonKind) : Button :=
  { code := bits (fieldWord ws 0) 23 16, kind := kind, group := bits (fieldWord ws 0) 10 8,
    enabled := flag (fieldWord ws 0) 1, latched := flag (fieldWord ws 0) 0,
    x := bits (fieldWord ws 1) 27 16, y := bits (fieldWord ws 1) 11 0,
    w := bits (fieldWord ws 2) 26 16, h := bits (fieldWord ws 2) 10 0,
    label := (labelCodes ws).take (bits (fieldWord ws 0) 15 12) }

theorem placeOf_absent (absent : bits (fieldWord ws 0) 31 31 = 0) : placeOf ws = some none := by
  simp [placeOf, flag, absent]

theorem placeOf_kindless (present : bits (fieldWord ws 0) 31 31 = 1)
    (kindless : buttonKindOf (bits (fieldWord ws 0) 5 4) = none) : placeOf ws = none := by
  simp [placeOf, flag, present, kindless]

theorem placeOf_present (present : bits (fieldWord ws 0) 31 31 = 1)
    (named : buttonKindOf (bits (fieldWord ws 0) 5 4) = some kind) :
    placeOf ws = if bits (fieldWord ws 0) 15 12 ≤ 12 ∧ (spelled ws kind).valid = true then
      some (some (spelled ws kind)) else none := by
  simp only [placeOf, flag, present, named, BEq.rfl, Bool.not_true, Bool.false_eq_true, if_false,
    Bool.and_eq_true, decide_eq_true_eq]
  rfl

/-- R143.5, R178: a place's words, encoded afresh from its fields, spell that place. -/
theorem placeOf_placeWords {p : Option Button} (h : ∀ b, p = some b →
    b.valid = true ∧ b.code < 256 ∧ b.group < 8 ∧ b.label.length ≤ 12) : placeOf (placeWords p) = some p := by
  cases p with
  | none => exact placeOf_absent (by decide)
  | some b =>
    obtain ⟨valid, code, group, label⟩ := h b rfl
    obtain ⟨present, -, code_eq, length, -, group_eq, -, kind, -, enabled, latched⟩ :=
      headWord_fields code group label
    obtain ⟨-, x, -, y⟩ := cornerWord_fields valid
    obtain ⟨-, w, -, h⟩ := sizeWord_fields valid
    have word0 : fieldWord (placeWords (some b)) 0 = b.headWord := rfl
    have word1 : fieldWord (placeWords (some b)) 1 = b.cornerWord := rfl
    have word2 : fieldWord (placeWords (some b)) 2 = b.sizeWord := rfl
    have named : buttonKindOf (bits (fieldWord (placeWords (some b)) 0) 5 4) = some b.kind := by
      rw [word0, kind]
      cases b.kind <;> rfl
    have same : spelled (placeWords (some b)) b.kind = b := by
      simp only [spelled, word0, word1, word2, flag, code_eq, group_eq, length, enabled, latched, x, y, w, h,
        labelCodes_placeWords label]
      obtain ⟨_, _, _, on, lit, _⟩ := b
      cases on <;> cases lit <;> rfl
    rw [placeOf_present (word0 ▸ present) named, same, if_pos ⟨by rw [word0, length]; exact label, valid⟩]

/-- The kind a code of two bits names. -/
theorem buttonKindOf_eq {c : Nat} (two_bits : c < 4) : c = 3 ∧ buttonKindOf c = none ∨
    ∃ k, buttonKindOf c = some k ∧ c = buttonKindCode k := by
  interval_cases c <;> simp [buttonKindOf, buttonKindCode]

theorem flag_field (w : Word) (i : Nat) : bits w i i = 0 ∨ bits w i i = 1 := by
  have small : bits w i i < 2 ^ (i + 1 - i) := Nat.mod_lt _ (by positivity)
  rw [Nat.add_sub_cancel_left] at small
  omega

/-- R143.5: the rules of the fields of a place whose kind is known. -/
theorem spelled_valid_iff : (spelled ws kind).valid = true ↔
    ¬(bits (fieldWord ws 0) 23 16 = 0 ∨ ¬(kind = .radio ↔ bits (fieldWord ws 0) 10 8 ≠ 0) ∨
      kind = .momentary ∧ bits (fieldWord ws 0) 0 0 = 1 ∨ bits (fieldWord ws 2) 26 16 < 16 ∨
      1024 < bits (fieldWord ws 2) 26 16 ∨ bits (fieldWord ws 2) 10 0 < 16 ∨
      1024 < bits (fieldWord ws 2) 10 0 ∨
      4095 < bits (fieldWord ws 1) 27 16 + bits (fieldWord ws 2) 26 16 ∨
      4095 < bits (fieldWord ws 1) 11 0 + bits (fieldWord ws 2) 10 0) := by
  rw [Button.valid_iff]
  simp only [spelled, flag, beq_iff_eq, not_or, not_lt, not_not, ne_eq]

/-- R143.5: six words are refused exactly when they are a present button's and a field breaks a rule. -/
theorem placeOf_eq_none_iff : placeOf ws = none ↔ bits (fieldWord ws 0) 31 31 = 1 ∧
    (bits (fieldWord ws 0) 23 16 = 0 ∨ bits (fieldWord ws 0) 5 4 = 3 ∨
      bits (fieldWord ws 0) 5 4 = 2 ∧ bits (fieldWord ws 0) 10 8 = 0 ∨
      bits (fieldWord ws 0) 5 4 ≠ 2 ∧ bits (fieldWord ws 0) 10 8 ≠ 0 ∨
      bits (fieldWord ws 0) 5 4 = 0 ∧ bits (fieldWord ws 0) 0 0 = 1 ∨
      bits (fieldWord ws 2) 26 16 < 16 ∨ 1024 < bits (fieldWord ws 2) 26 16 ∨
      bits (fieldWord ws 2) 10 0 < 16 ∨ 1024 < bits (fieldWord ws 2) 10 0 ∨
      4095 < bits (fieldWord ws 1) 27 16 + bits (fieldWord ws 2) 26 16 ∨
      4095 < bits (fieldWord ws 1) 11 0 + bits (fieldWord ws 2) 10 0 ∨
      12 < bits (fieldWord ws 0) 15 12) := by
  obtain absent | present := flag_field (fieldWord ws 0) 31
  · simp [placeOf_absent absent, absent]
  · obtain ⟨three, kindless⟩ | ⟨kind, named, code⟩ := buttonKindOf_eq (bits_lt_four (fieldWord ws 0) (hi := 5) (lo := 4) rfl)
    · simp [placeOf_kindless present kindless, present, three]
    · rw [placeOf_present present named, present, code]
      have refused : (if bits (fieldWord ws 0) 15 12 ≤ 12 ∧ (spelled ws kind).valid = true then
          some (some (spelled ws kind)) else none) = none ↔
            12 < bits (fieldWord ws 0) 15 12 ∨ ¬(spelled ws kind).valid = true := by
        simp only [ite_eq_right_iff, reduceCtorEq, imp_false, not_and_or, not_le]
      rw [refused, spelled_valid_iff, not_not]
      cases kind <;> simp [buttonKindCode] <;> omega

/-- What a place's words give, if they give a button. -/
theorem placeOf_eq_button {b : Button} (h : placeOf ws = some (some b)) :
    ∃ kind, b = spelled ws kind ∧ bits (fieldWord ws 0) 5 4 = buttonKindCode kind ∧
      bits (fieldWord ws 0) 15 12 ≤ 12 := by
  obtain absent | present := flag_field (fieldWord ws 0) 31
  · rw [placeOf_absent absent] at h
    cases h
  · obtain ⟨-, kindless⟩ | ⟨kind, named, code⟩ := buttonKindOf_eq (bits_lt_four (fieldWord ws 0) (hi := 5) (lo := 4) rfl)
    · rw [placeOf_kindless present kindless] at h
      cases h
    · rw [placeOf_present present named] at h
      split_ifs at h with fits
      cases h
      exact ⟨kind, rfl, code, fits.1⟩

theorem length_spelled_label (short : bits (fieldWord ws 0) 15 12 ≤ 12) :
    (spelled ws kind).label.length = bits (fieldWord ws 0) 15 12 := by
  have twelve : (labelCodes ws).length = 12 := rfl
  rw [spelled, List.length_take, twelve, Nat.min_eq_left short]

theorem spelled_label_byte {j : Nat} (short : bits (fieldWord ws 0) 15 12 ≤ 12)
    (inside : j < bits (fieldWord ws 0) 15 12) : ((spelled ws kind).label.getD j 0).toNat =
      bits (ws.getD (3 + j / 4) 0) (31 - 8 * (j % 4)) (24 - 8 * (j % 4)) := by
  rw [← labelCodes_byte (by omega), spelled, List.getD, List.getD, List.getElem?_take_of_lt inside]

end Places

end Sys2Proof.Machine
end

section
/-! LOAD CLOSE (R145, R146): the tests in their order and the swap scheduled. -/

namespace Sys2Proof.Machine

section LoadClose
variable {tag : BitVec 8} {w : Word} {t : Table} {count sum : Nat} {map : List Nat} {s : State}

theorem loadCloseOwner_unknown (unknown : tableOf w = none) :
    loadCloseOwner [w] s = refuse .range s := by
  have field : tableOf (fieldWord [w] 0) = none := unknown
  rw [loadCloseOwner, field]

theorem loadCloseOwner_unopened (named : tableOf w = some t)
    (unopened : ∀ c k l, s.loads.get t ≠ .opened c k l) : loadCloseOwner [w] s = refuse .noSession s := by
  have field : tableOf (fieldWord [w] 0) = some t := named
  unfold loadCloseOwner
  rw [field]
  cases session : s.loads.get t with
  | opened c k l => exact absurd session (unopened c k l)
  | none | swapPending => simp only [session]

/-- R146: the swap scheduled, and for the layer table every pending layer set discarded. -/
def scheduleSwap : Table → State → State
  | .layers, s => (setSession .layers .swapPending s).setBanks
      { s.banks with pendingLayers := Vector.replicate 64 none }
  | .menu, s => setSession .menu .swapPending s

theorem loadCloseOwner_opened (named : tableOf w = some t)
    (opened : s.loads.get t = .opened count sum map) : loadCloseOwner [w] s =
      if ¬∀ i, i < count → i ∈ map then refuse .incomplete s
      else if halfSum (shadowWords t s.banks count) ≠ sum then
        { state := setSession t .none s, status := .refused .checksum }
      else if t = .menu ∧ radioConflict s.banks.menuShadow = true then refuse .conflict s
      else accept (scheduleSwap t s) := by
  have field : tableOf (fieldWord [w] 0) = some t := named
  have covered : (!(List.range count).all map.contains) = true ↔ ¬∀ i, i < count → i ∈ map := by simp
  have conflicting : (t == .menu && radioConflict s.banks.menuShadow) = true ↔
      t = .menu ∧ radioConflict s.banks.menuShadow = true := by simp
  simp only [loadCloseOwner, field, opened, covered, conflicting]
  cases t <;> rfl

theorem loadCloseOwner_incomplete (named : tableOf w = some t)
    (opened : s.loads.get t = .opened count sum map) (missing : ∃ i, i < count ∧ i ∉ map) :
    loadCloseOwner [w] s = refuse .incomplete s := by
  refine (loadCloseOwner_opened named opened).trans (if_pos fun all => ?_)
  obtain ⟨i, below, absent⟩ := missing
  exact absent (all i below)

theorem loadCloseOwner_checksum (named : tableOf w = some t)
    (opened : s.loads.get t = .opened count sum map) (all : ∀ i, i < count → i ∈ map)
    (wrong : halfSum (shadowWords t s.banks count) ≠ sum) :
    loadCloseOwner [w] s = { state := setSession t .none s, status := .refused .checksum } :=
  (loadCloseOwner_opened named opened).trans ((if_neg (not_not.mpr all)).trans (if_pos wrong))

theorem loadCloseOwner_conflict (named : tableOf w = some .menu)
    (opened : s.loads.get .menu = .opened count sum map) (all : ∀ i, i < count → i ∈ map)
    (right : halfSum (shadowWords .menu s.banks count) = sum)
    (conflict : radioConflict s.banks.menuShadow = true) :
    loadCloseOwner [w] s = refuse .conflict s :=
  (loadCloseOwner_opened named opened).trans ((if_neg (not_not.mpr all)).trans
    ((if_neg (not_not.mpr right)).trans (if_pos ⟨rfl, conflict⟩)))

theorem loadCloseOwner_menu (named : tableOf w = some .menu)
    (opened : s.loads.get .menu = .opened count sum map) (all : ∀ i, i < count → i ∈ map)
    (right : halfSum (shadowWords .menu s.banks count) = sum)
    (free : ¬radioConflict s.banks.menuShadow = true) :
    loadCloseOwner [w] s = accept (scheduleSwap .menu s) :=
  (loadCloseOwner_opened named opened).trans ((if_neg (not_not.mpr all)).trans
    ((if_neg (not_not.mpr right)).trans (if_neg fun conflict => free conflict.2)))

theorem loadCloseOwner_layers (named : tableOf w = some .layers)
    (opened : s.loads.get .layers = .opened count sum map) (all : ∀ i, i < count → i ∈ map)
    (right : halfSum (shadowWords .layers s.banks count) = sum) :
    loadCloseOwner [w] s = accept (scheduleSwap .layers s) :=
  (loadCloseOwner_opened named opened).trans ((if_neg (not_not.mpr all)).trans
    ((if_neg (not_not.mpr right)).trans (if_neg nofun)))

theorem exec_loadClose_takes (h : s.takesAtOnce (.loadClose tag [w])) :
    exec (.loadClose tag [w]) s = .next (takeOrder 0x07 tag true (loadCloseOwner [w]) s) :=
  exec_takes rfl rfl h

/-- Of two places in conflict one comes first. -/
theorem radioConflict_iff_ordered {t : MenuTable} : radioConflict t = true ↔
    ∃ i j a b, i < j ∧ placeAt t i = some a ∧ placeAt t j = some b ∧ a.kind = .radio ∧
      b.kind = .radio ∧ a.group = b.group ∧ a.latched = true ∧ b.latched = true := by
  rw [radioConflict_iff]
  constructor
  · rintro ⟨i, j, a, b, at_i, at_j, apart, kind_a, kind_b, group, lit_a, lit_b⟩
    obtain below | above := Nat.lt_or_gt_of_ne apart
    · exact ⟨i, j, a, b, below, at_i, at_j, kind_a, kind_b, group, lit_a, lit_b⟩
    · exact ⟨j, i, b, a, above, at_j, at_i, kind_b, kind_a, group.symm, lit_b, lit_a⟩
  · rintro ⟨i, j, a, b, below, at_i, at_j, rest⟩
    exact ⟨i, j, a, b, at_i, at_j, below.ne, rest⟩

/-- Two layer entries loaded with the right sum, with a wrong one, and with one still missing. -/
theorem witness_loadClose_tests :
    let opened := fun k map => { State.reset with
      loads := { State.reset.loads with layers := .opened 2 k map } }
    (opened 0 [0, 1]).takesAtOnce (.loadClose 0 [0x01000000]) ∧
      halfSum (shadowWords .layers (opened 0 [0, 1]).banks 2) = 0 ∧
    (opened 5 [0, 1]).takesAtOnce (.loadClose 0 [0x01000000]) ∧
      halfSum (shadowWords .layers (opened 5 [0, 1]).banks 2) ≠ 5 ∧
    (opened 0 [0]).takesAtOnce (.loadClose 0 [0x01000000]) ∧ 1 ∉ [0] := by decide

/-- R178: the words of a present button place hold its fields, and 0 in every other bit. -/
theorem placeWords_fields {b : Button} (valid : b.valid = true) (code : b.code < 256) (group : b.group < 8)
    (label : b.label.length ≤ 12) :
    ∃ w0 w1 w2 w3 w4 w5 : Word, placeWords (some b) = [w0, w1, w2, w3, w4, w5] ∧
      bits w0 31 31 = 1 ∧ bits w0 30 24 = 0 ∧ bits w0 23 16 = b.code ∧
      bits w0 15 12 = b.label.length ∧ bits w0 11 11 = 0 ∧ bits w0 10 8 = b.group ∧
      bits w0 7 6 = 0 ∧ bits w0 5 4 = (match b.kind with
        | .momentary => 0
        | .toggle => 1
        | .radio => 2) ∧
      bits w0 3 2 = 0 ∧ bits w0 1 1 = (if b.enabled = true then 1 else 0) ∧
      bits w0 0 0 = (if b.latched = true then 1 else 0) ∧
      bits w1 31 28 = 0 ∧ bits w1 27 16 = b.x ∧ bits w1 15 12 = 0 ∧ bits w1 11 0 = b.y ∧
      bits w2 31 27 = 0 ∧ bits w2 26 16 = b.w ∧ bits w2 15 11 = 0 ∧ bits w2 10 0 = b.h ∧
      ∀ j, j < 12 → bits ([w3, w4, w5].getD (j / 4) 0) (31 - 8 * (j % 4)) (24 - 8 * (j % 4)) =
        if j < b.label.length then (b.label.getD j 0).toNat else 0 := by
  obtain ⟨present, zero0, code_eq, length, zero1, group_eq, zero2, kind, zero3, enabled, latched⟩ :=
    headWord_fields code group label
  obtain ⟨zero4, x, zero5, y⟩ := cornerWord_fields valid
  obtain ⟨zero6, w, zero7, h⟩ := sizeWord_fields valid
  have kind_eq : buttonKindCode b.kind = match b.kind with
      | .momentary => 0
      | .toggle => 1
      | .radio => 2 := by cases b.kind <;> rfl
  have of_flag (c : Bool) : c.toNat = if c = true then 1 else 0 := by cases c <;> rfl
  refine ⟨_, _, _, _, _, _, placeWords_some, present, zero0, code_eq, length, zero1, group_eq, zero2,
    kind.trans kind_eq, zero3, enabled.trans (of_flag _), latched.trans (of_flag _),
    zero4, x, zero5, y, zero6, w, zero7, h, fun j below => ?_⟩
  have word : [codesWord b.label, codesWord (b.label.drop 4), codesWord (b.label.drop 8)].getD (j / 4) 0 =
      codesWord (b.label.drop (4 * (j / 4))) := by
    interval_cases j <;> rfl
  rw [word, codesWord_byte (Nat.mod_lt j (by decide)), getD_drop, Nat.div_add_mod]
  split_ifs with inside
  · rfl
  · rw [List.getD, List.getElem?_eq_none (by omega)]
    rfl

/-- Settles O45: the tests in the order of the owner, and the layout of the words the checksum adds. -/
theorem loadCloseTaken : Obligations.LoadCloseTaken := by
  refine ⟨?_, ?_, fun _ => rfl, rfl, by decide, fun _ _ _ => rfl, fun _ _ _ => rfl, fun _ => rfl,
    fun b valid code group label => placeWords_fields valid code group label⟩
  · intro tag w s h
    have room : s.lane.queue.length < 32 := room_of_takes h rfl
    intro run reply tests
    have run_eq : run = .next (takeOrder 0x07 tag true (loadCloseOwner [w]) s) := exec_loadClose_takes h
    have refused {r : Reason} (owner : loadCloseOwner [w] s.unarmed = refuse r s.unarmed) :
        run = .next (reply (.refused r)) :=
      run_eq.trans (congrArg Host.Outcome.next (takeOrder_plain room owner rfl))
    have tested {t : Table} (named : tableOf w = some t) :
        tests (s.loads.get t) (shadowWords t s.banks) (s.loads.put t .none) := by
      refine ⟨fun unopened => refused (loadCloseOwner_unopened named unopened), fun c k l opened =>
        ⟨fun missing => refused (loadCloseOwner_incomplete named opened missing), fun all wrong => ?_⟩⟩
      exact run_eq.trans (congrArg Host.Outcome.next (takeOrder_plain room
        (loadCloseOwner_checksum (s := s.unarmed) named opened all wrong) rfl))
    refine ⟨fun not_one not_two => refused (loadCloseOwner_unknown (tableOf_unknown not_one not_two)),
      fun one => ⟨tested (tableOf_layers one), fun c k l opened all right => ?_⟩,
      fun two => ⟨tested (tableOf_menu two), fun c k l opened all right => ?_⟩⟩
    · exact run_eq.trans (congrArg Host.Outcome.next (takeOrder_plain room
        (loadCloseOwner_layers (s := s.unarmed) (tableOf_layers one) opened all right) rfl))
    · intro conflict
      have conflict_iff : radioConflict s.banks.menuShadow = true ↔ conflict := radioConflict_iff_ordered
      refine ⟨fun clash => refused (loadCloseOwner_conflict (tableOf_menu two) opened all right
        (conflict_iff.mpr clash)), fun free => ?_⟩
      exact run_eq.trans (congrArg Host.Outcome.next (takeOrder_plain room
        (loadCloseOwner_menu (s := s.unarmed) (tableOf_menu two) opened all right
          fun clash => free (conflict_iff.mp clash)) rfl))
  · intro e low
    refine ⟨?_, (layerWord_fields low).1⟩
    rw [halves, (layerWord_fields low).1, bits, layerWord_toNat low]
    split_ifs <;> omega

end LoadClose

end Sys2Proof.Machine
end

section
/-! LOAD SEGMENT (R143, R144): the tests in their order and the entries written. -/

namespace Sys2Proof.Machine

section LoadSegment
variable {tag : BitVec 8} {w : Word} {es : List Word} {t : Table} {count sum : Nat} {map : List Nat}
  {s : State} {b : Banks}

theorem loadSegmentOwner_unknown (unknown : tableOf w = none) :
    loadSegmentOwner (w :: es) s = refuse .range s := by
  have field : tableOf (fieldWord (w :: es) 0) = none := unknown
  rw [loadSegmentOwner, field]

theorem loadSegmentOwner_unopened (named : tableOf w = some t)
    (unopened : ∀ c k l, s.loads.get t ≠ .opened c k l) :
    loadSegmentOwner (w :: es) s = refuse .noSession s := by
  have field : tableOf (fieldWord (w :: es) 0) = some t := named
  unfold loadSegmentOwner
  dsimp only
  rw [field]
  cases session : s.loads.get t with
  | opened c k l => exact absurd session (unopened c k l)
  | none | swapPending => simp only [session]

theorem loadSegmentOwner_opened (named : tableOf w = some t)
    (opened : s.loads.get t = .opened count sum map) : loadSegmentOwner (w :: es) s =
      if bits w 7 0 = 0 ∨ 8 < bits w 7 0 then refuse .badField s
      else if count < bits w 23 16 + bits w 7 0 then refuse .range s
      else ((writeSegment t s.banks (bits w 23 16) (bits w 7 0) es).map fun b =>
        accept (setSession t (.opened count sum (mapAdd map (bits w 23 16) (bits w 7 0)))
          (s.setBanks b))).getD (refuse .badField s) := by
  have field : fieldWord (w :: es) 0 = w := rfl
  simp only [loadSegmentOwner, field, named, opened, List.tail_cons]
  cases writeSegment t s.banks (bits w 23 16) (bits w 7 0) es <;> rfl

theorem loadSegmentOwner_badCount (named : tableOf w = some t)
    (opened : s.loads.get t = .opened count sum map) (bad : bits w 7 0 = 0 ∨ 8 < bits w 7 0) :
    loadSegmentOwner (w :: es) s = refuse .badField s :=
  (loadSegmentOwner_opened named opened).trans (if_pos bad)

section Counted
variable (named : tableOf w = some t) (opened : s.loads.get t = .opened count sum map)
  (low : 1 ≤ bits w 7 0) (high : bits w 7 0 ≤ 8)
include named opened low high

theorem loadSegmentOwner_beyond (beyond : count < bits w 23 16 + bits w 7 0) :
    loadSegmentOwner (w :: es) s = refuse .range s :=
  (loadSegmentOwner_opened named opened).trans ((if_neg (by omega)).trans (if_pos beyond))

theorem loadSegmentOwner_badEntry (inside : bits w 23 16 + bits w 7 0 ≤ count)
    (bad : writeSegment t s.banks (bits w 23 16) (bits w 7 0) es = none) :
    loadSegmentOwner (w :: es) s = refuse .badField s := by
  refine (loadSegmentOwner_opened named opened).trans ((if_neg (by omega)).trans ((if_neg (by omega)).trans ?_))
  rw [bad]
  rfl

theorem loadSegmentOwner_written (inside : bits w 23 16 + bits w 7 0 ≤ count)
    (good : writeSegment t s.banks (bits w 23 16) (bits w 7 0) es = some b) :
    loadSegmentOwner (w :: es) s = accept (setSession t
      (.opened count sum (mapAdd map (bits w 23 16) (bits w 7 0))) (s.setBanks b)) := by
  refine (loadSegmentOwner_opened named opened).trans ((if_neg (by omega)).trans ((if_neg (by omega)).trans ?_))
  rw [good]
  rfl

end Counted

/-! ## The entries -/

theorem layersValid_iff : (es.map layerEntryOf).all LayerEntry.valid = true ↔ ∀ e ∈ es, bits e 7 0 ≤ 15 := by
  simp only [List.all_map, List.all_eq_true, Function.comp_apply, LayerEntry.valid, layerEntryOf]
  exact forall₂_congr fun _ _ => decide_eq_true_iff

theorem writeSegment_layers {first n : Nat} : writeSegment .layers b first n es =
    if ∀ e ∈ es, bits e 7 0 ≤ 15 then
      some { b with layersShadow := writeFrom b.layersShadow first (es.map layerEntryOf) }
    else none := by
  simp only [writeSegment, layersValid_iff]

theorem writeSegment_menu_none {first n : Nat} (bad : ¬∀ j, j < n → placeOf (placeWordsAt es j) ≠ none) :
    writeSegment .menu b first n es = none := by
  have spoilt : placesOf es n = none := placesOf_eq_none_iff.mpr (by simpa using bad)
  simp only [writeSegment, spoilt, Option.map_none]

theorem writeSegment_menu_some {first n : Nat} (good : ∀ j, j < n → placeOf (placeWordsAt es j) ≠ none) :
    ∃ ps, ps.length = n ∧ (∀ j, j < n → ps[j]? = placeOf (placeWordsAt es j)) ∧
      writeSegment .menu b first n es = some { b with
        menuShadow := { b.menuShadow with places := writeFrom b.menuShadow.places first ps } } := by
  cases read : placesOf es n with
  | none =>
    obtain ⟨j, below, bad⟩ := placesOf_eq_none_iff.mp read
    exact absurd bad (good j below)
  | some ps =>
    obtain ⟨length, places⟩ := placesOf_eq_some_iff.mp read
    exact ⟨ps, length, places, by simp only [writeSegment, read, Option.map_some]⟩

/-! ## The taking -/

theorem exec_loadSegment_takes (ok : (Instr.loadSegment tag (w :: es)).wellFormed = true)
    (length : es.length = if bits w 31 24 = 2 then 6 * bits w 7 0 else bits w 7 0)
    (h : s.takesAtOnce (.loadSegment tag (w :: es))) : exec (.loadSegment tag (w :: es)) s =
      .next (takeOrder 0x06 tag true (loadSegmentOwner (w :: es)) s) := by
  have admitted : segmentLengthOk (w :: es) = true := by
    simp only [segmentLengthOk, tableOf_eq_menu_iff]
    split_ifs at length ⊢ <;> simpa using length
  have taken : exec (.loadSegment tag (w :: es)) s = .next (takeOrder 0x06 tag
      (segmentLengthOk (w :: es)) (loadSegmentOwner (w :: es)) s) := exec_takes rfl ok h
  rw [taken, admitted]

theorem map_grown (first n : Nat) : (∀ i, i ∈ mapAdd map first n ↔ i ∈ map ∨ first ≤ i ∧ i < first + n) ∧
    (map.Nodup → (mapAdd map first n).Nodup) :=
  ⟨fun _ => mem_mapAdd, fun distinct => nodup_mapAdd distinct first n⟩

/-- Settles O44: the tests in the order of the owner, the entries written, and the reading of a place. -/
theorem loadSegmentTaken : Obligations.LoadSegmentTaken := by
  refine ⟨?_, fun p fits => placeOf_placeWords fits, fun e low => layerEntryOf_layerWord low, ?_⟩
  · intro tag w es s h ok run first n reply inside grown tests
    have room : s.lane.queue.length < 32 := room_of_takes h rfl
    have run_eq (length : es.length = if bits w 31 24 = 2 then 6 * bits w 7 0 else bits w 7 0) :
        run = .next (takeOrder 0x06 tag true (loadSegmentOwner (w :: es)) s) :=
      exec_loadSegment_takes ok length h
    have refused {r : Reason}
        (length : es.length = if bits w 31 24 = 2 then 6 * bits w 7 0 else bits w 7 0)
        (owner : loadSegmentOwner (w :: es) s.unarmed = refuse r s.unarmed) :
        run = .next (reply (.refused r)) :=
      (run_eq length).trans (congrArg Host.Outcome.next (takeOrder_plain room owner rfl))
    have tested {t : Table} {good : Prop}
        (length : es.length = if bits w 31 24 = 2 then 6 * bits w 7 0 else bits w 7 0)
        (named : tableOf w = some t) (bad : ¬good → writeSegment t s.banks first n es = none) :
        tests (s.loads.get t) good :=
      ⟨fun unopened => refused length (loadSegmentOwner_unopened named unopened), fun c k l opened =>
        ⟨fun count => refused length (loadSegmentOwner_badCount named opened count),
          fun low high beyond => refused length (loadSegmentOwner_beyond named opened low high beyond),
          fun low high within spoilt =>
            refused length (loadSegmentOwner_badEntry named opened low high within (bad spoilt))⟩⟩
    refine ⟨fun not_one not_two length => ?_, fun one length => ?_, fun two length => ?_⟩
    · exact refused (length.trans (if_neg not_two).symm)
        (loadSegmentOwner_unknown (tableOf_unknown not_one not_two))
    · intro good
      have sized : es.length = if bits w 31 24 = 2 then 6 * bits w 7 0 else bits w 7 0 :=
        length.trans (if_neg (by omega)).symm
      have bad (spoilt : ¬good) : writeSegment .layers s.banks first n es = none :=
        writeSegment_layers.trans (if_neg spoilt)
      refine ⟨tested sized (tableOf_layers one) bad, fun c k l opened low high within fine => ?_⟩
      have written := loadSegmentOwner_written (s := s.unarmed) (tableOf_layers one) opened low high within
        (writeSegment_layers.trans (if_pos fine))
      refine ⟨_, _, (run_eq sized).trans (congrArg Host.Outcome.next (takeOrder_plain room written rfl)),
        map_grown first n, fun i below => ?_⟩
      rw [writeFrom_getElem? _ _ _ below, List.length_map, length, List.getElem?_map]
      rfl
    · intro place good
      have sized : es.length = if bits w 31 24 = 2 then 6 * bits w 7 0 else bits w 7 0 :=
        length.trans (if_pos two).symm
      have bad (spoilt : ¬good) : writeSegment .menu s.banks first n es = none :=
        writeSegment_menu_none spoilt
      refine ⟨tested sized (tableOf_menu two) bad, fun c k l opened low high within fine => ?_⟩
      obtain ⟨ps, count, places, spelt⟩ := writeSegment_menu_some (b := s.banks) (first := first) fine
      have written := loadSegmentOwner_written (s := s.unarmed) (tableOf_menu two) opened low high within spelt
      refine ⟨_, _, (run_eq sized).trans (congrArg Host.Outcome.next (takeOrder_plain room written rfl)),
        map_grown first n, fun i below => ?_⟩
      rw [writeFrom_getElem? _ _ _ below, count]
      by_cases at_i : inside i
      · rw [if_pos at_i, if_pos at_i]
        exact places (i - first) (by omega)
      · rw [if_neg at_i, if_neg at_i]
  · intro ws w0 code len group kind latched x y w h
    refine ⟨placeOf_absent, placeOf_eq_none_iff, fun b given => ?_⟩
    obtain ⟨k, rfl, code_eq, short⟩ := placeOf_eq_button given
    refine ⟨rfl, ?_, rfl, rfl, rfl, rfl, rfl, rfl, rfl, length_spelled_label short,
      fun j inside => spelled_label_byte short inside⟩
    have kind_eq : kind = buttonKindCode k := code_eq
    rw [kind_eq]
    cases k <;> rfl

end LoadSegment

end Sys2Proof.Machine
end

section
/-! Completion notices (R18): the run of entries they retire, the held items they let go of, and the unclosed
close (R15). -/

namespace Sys2Proof.Machine

/-! ## The entries completed -/

section Retire
variable {q : BitVec 8} {pins : Pins} {n : Nat} {s : State}

/-- R18: the close a completion brings is that of a FRAME END in its run. -/
theorem coversFrameEnd_eq (s : State) (n : Nat) : s.coversFrameEnd n =
    (s.frameOpen && (s.trail.run n).any (fun e => e.closes s.decoder.frame)) := by
  have phase : s.frameOpen = (s.decoder.phase != .idle) := by
    unfold State.frameOpen
    cases s.decoder.phase <;> rfl
  unfold State.coversFrameEnd Trail.run Entry.closes
  rw [phase, List.any_filter]
  simp only [Bool.and_assoc]

theorem completes_named (h : s.completesTo q n) :
    ∃ e, s.trail.named q.toNat = some (n, e) ∧ e.completed = false := by
  obtain ⟨-, -, -, named⟩ := h
  cases found : s.trail.named q.toNat with
  | none =>
    rw [found] at named
    cases named
  | some p =>
    obtain ⟨i, e⟩ := p
    rw [found] at named
    simp only [Option.any_some, Bool.and_eq_true, beq_iff_eq, Bool.not_eq_true'] at named
    obtain ⟨rfl, outstanding⟩ := named
    exact ⟨e, rfl, outstanding⟩

theorem endDrain_free (free : s.orders.inHand = none) : endDrain s = s := by
  unfold endDrain
  rw [free]

/-- R18: what a completion of outstanding entries does, but for the drain of a RESET. -/
theorem completeEffect_run {e : Entry} (named : s.trail.named q.toNat = some (n, e))
    (outstanding : e.completed = false) : completeEffect q.toNat s =
      if s.coversFrameEnd n = true then closeFrame (s.setTrail (s.trail.retired n))
      else s.setTrail (s.trail.retired n) := by
  unfold completeEffect
  rw [named, ← complete_eq, coversFrameEnd_eq]
  simp only [outstanding, Bool.false_eq_true, if_false]

theorem closeFrame_orders (s : State) : (closeFrame s).orders = s.orders := by
  have unclosed : (closeUnclosed s).orders = s.orders := by
    unfold closeUnclosed
    dsimp only
    split <;> rfl
  unfold closeFrame
  split
  · rfl
  · exact unclosed
  · rfl

theorem takeCompletion_outstanding {e : Entry} (named : s.trail.named q.toNat = some (n, e))
    (outstanding : e.completed = false) : takeCompletion q.toNat s =
      endDrain (if s.coversFrameEnd n = true then closeFrame (s.setTrail (s.trail.retired n))
        else s.setTrail (s.trail.retired n)) := by
  have placed : s.placeable q.toNat = true := by
    unfold State.placeable
    rw [named]
    simp [outstanding]
  unfold takeCompletion
  rw [if_pos placed, completeEffect_run named outstanding]

theorem takeCompletion_completes (h : s.completesTo q n) : takeCompletion q.toNat s =
    if s.coversFrameEnd n = true then closeFrame (s.setTrail (s.trail.retired n))
    else s.setTrail (s.trail.retired n) := by
  obtain ⟨e, named, outstanding⟩ := completes_named h
  rw [takeCompletion_outstanding named outstanding]
  refine endDrain_free ?_
  have free : (s.setTrail (s.trail.retired n)).orders.inHand = none := h.2.2.1
  split_ifs
  · rw [closeFrame_orders, free]
  · exact free

theorem exec_completion_high (high : s.resetLow = false) : exec (.completionNotice q pins) s =
    .next (drainPort (takeCompletion q.toNat (s.setPins pins))) :=
  congrArg Host.Outcome.next (if_neg (by simp [high]))

/-- With nothing held at the port, the notice's own work is all there is. -/
theorem exec_completion (h : s.completesTo q n) : exec (.completionNotice q pins) s =
    .next (if s.coversFrameEnd n = true then closeFrame ((s.setPins pins).setTrail (s.trail.retired n))
      else (s.setPins pins).setTrail (s.trail.retired n)) := by
  have h' : (s.setPins pins).completesTo q n := h
  rw [exec_completion_high h.1, drainPort_empty, takeCompletion_completes h']
  · rfl
  · exact (takeCompletion_ports q.toNat (s.setPins pins)).portLine.trans h.2.1

theorem exec_completion_plain (h : s.completesTo q n) (plain : s.coversFrameEnd n = false) :
    exec (.completionNotice q pins) s = .next { s with pins := pins, trail := s.trail.retired n } := by
  rw [exec_completion h, if_neg (by simp [plain])]
  rfl

theorem exec_completion_closes (h : s.completesTo q n) (covers : s.coversFrameEnd n = true) :
    exec (.completionNotice q pins) s =
      .next (closeFrame ((s.setPins pins).setTrail (s.trail.retired n))) := by
  rw [exec_completion h, if_pos covers]

/-- R36: a completion leaves room in a window that was lawfully full. -/
theorem retired_windowOpen (h : s.completesTo q n) (lawful : s.trail.outstanding ≤ 16) :
    (s.trail.retired n).outstanding < 16 := by
  obtain ⟨e, named, outstanding⟩ := completes_named h
  have at_n : s.trail.entries[n]? = some e := by
    unfold Trail.named at named
    split at named
    · cases named
    · obtain ⟨found, at_i, same⟩ := Option.map_eq_some_iff.mp named
      cases same
      exact at_i
  have inRun : e ∈ (s.trail.entries.take (n + 1)).filter fun e => !e.completed := by
    refine List.mem_filter.mpr ⟨List.mem_of_getElem? (i := n) ?_, by simp [outstanding]⟩
    rw [List.getElem?_take_of_lt (Nat.lt_succ_self n)]
    exact at_n
  have counted := List.length_pos_of_mem inRun
  simp only [Trail.retired]
  omega

end Retire

/-! ## The items held at the port (R20, log entry 4) -/

section Held
variable {q : BitVec 8} {pins : Pins} {i : Instr} {line : List Instr} {s u : State}

theorem drain_pins (line : List Instr) (s : State) : (drain line s).pins = s.pins :=
  drain_keeps (P := fun u => u.pins = s.pins) line s (fun _ _ h => h)
    (fun i u _ h => (take_ports i u).pins.trans h) rfl

theorem isStreamItem_atPins : (atPins pins i).isStreamItem = i.isStreamItem := by cases i <;> rfl

theorem wellFormed_atPins : (atPins pins i).wellFormed = i.wellFormed := by cases i <;> rfl

theorem wouldIssue_frameStart {low : Low} {p p' : Pins} :
    wouldIssue (.frameStart low p) s = wouldIssue (.frameStart low p') s := by
  unfold wouldIssue
  cases s.decoder.phase <;> rfl

theorem stallCauses_atPins : stallCauses (atPins pins i) s = stallCauses i s := by
  cases i with
  | frameStart low p =>
    unfold stallCauses atPins
    rw [wouldIssue_frameStart (p' := p)]
    rfl
  | _ => rfl

theorem seenPins_atPins (h : s.pins = pins) : s.seenPins (atPins pins i) = pins := by
  cases i with
  | frameStart low p => rfl
  | _ => exact h

/-- A held item presented again with the lines as they stand. -/
theorem exec_atPins (item : i.isStreamItem = true) (ok : i.wellFormed = true) (h : u.pins = pins) :
    exec (atPins pins i) u = .next (present (atPins pins i) u) := by
  have same : u.setPins (u.seenPins (atPins pins i)) = u := by
    rw [seenPins_atPins h, ← h]
    rfl
  have run : exec (atPins pins i) u = presented (atPins pins i) (u.setPins (u.seenPins (atPins pins i))) :=
    exec_streamItem (isStreamItem_atPins.trans item)
  rw [run, same, presented, if_pos (wellFormed_atPins.trans ok)]

/-- The last item held is dealt with as if it were presented once the notice has done its work. -/
theorem exec_completion_snoc (high : s.resetLow = false)
    (e : exec (.completionNotice q pins) { s with portLine := line } = .next u) :
    exec (.completionNotice q pins) { s with portLine := line ++ [i] } = .next (present i u) := by
  rw [exec_completion_high (s := { s with portLine := line }) high] at e
  cases e
  rw [exec_completion_high (s := { s with portLine := line ++ [i] }) high]
  refine congrArg Host.Outcome.next (drainPort_snoc (takeCompletion_blind q.toNat) line i (s.setPins pins) ?_)
  exact (takeCompletion_ports q.toNat (s.setPins pins)).resetLow.trans high

theorem after_completion (high : s.resetLow = false) (e : exec (.completionNotice q pins) s = .next u) :
    u.pins = pins ∧ u.resetLow = false ∧
      ∀ j rest, u.portLine = j :: rest → stallCauses j u ≠ [] := by
  rw [exec_completion_high high] at e
  cases e
  have ports := takeCompletion_ports q.toNat (s.setPins pins)
  exact ⟨(drain_pins _ _).trans ports.pins, (drain_resetLow _ _).trans (ports.resetLow.trans high),
    drain_head_held _ _⟩

theorem present_atPins (h : u.takesAtOnce i) : present (atPins pins i) u = present i u := by
  have h' : u.takesAtOnce (atPins pins i) := ⟨h.1, h.2.1, stallCauses_atPins.trans h.2.2⟩
  rw [present_takes h, present_takes h', take_atPins]

/-- In DRAWING no cause holds a FRAME START but a RESET in hand. -/
theorem present_atPins_drawing (high : u.resetLow = false) (line : u.portLine = [])
    (drawing : u.decoder.phase = .drawing) (free : u.orders.inHand = none) :
    present (atPins pins i) u = present i u := by
  cases i with
  | frameStart low p =>
    refine present_atPins ⟨high, line, stallCauses_eq_nil_iff.mpr ⟨?_, ?_, ?_, nofun, free, high⟩⟩
    · unfold wouldIssue
      rw [drawing]
      nofun
    · rw [drawing]
      nofun
    · rw [drawing]
      nofun
  | _ => rfl

theorem exec_completion_takes (high : s.resetLow = false) (item : i.isStreamItem = true)
    (ok : i.wellFormed = true)
    (e : exec (.completionNotice q pins) { s with portLine := line } = .next u) (h : u.takesAtOnce i) :
    exec (.completionNotice q pins) { s with portLine := line ++ [i] } = exec (atPins pins i) u := by
  obtain ⟨lines, -, -⟩ := after_completion (s := { s with portLine := line }) high e
  rw [exec_completion_snoc high e, exec_atPins item ok lines, present_atPins h]

/-- Settles O25: the completed run, and the item held last. -/
theorem completionRetires : Obligations.CompletionRetires := by
  refine ⟨fun q pins n s h plain => exec_completion_plain h plain, ?_, ?_⟩
  · intro q pins n i s item ok h plain held u free
    have alone : exec (.completionNotice q pins) { s with portLine := [] } = .next u :=
      exec_completion_plain h plain
    have behind := exec_completion_takes (line := []) h.1 item ok alone free
    rw [List.nil_append, ← held] at behind
    exact behind
  · intro q pins line i s u high item ok e
    refine ⟨fun free => exec_completion_takes high item ok e free, fun busy => ?_⟩
    obtain ⟨-, high', head⟩ := after_completion (s := { s with portLine := line }) high e
    exact (exec_completion_snoc high e).trans (congrArg Host.Outcome.next (present_waits high' head busy))

end Held

/-! ## The unclosed close (R15) -/

section Unclosed
variable {q : BitVec 8} {pins : Pins} {low : Low} {i : Instr} {s : State}

theorem pressUnclosed_eq (p : PressWindow) : pressUnclosed p = if (match p with
    | .opened k w => decide (k = w)
    | .closed => false) = true then .closed else p := by
  cases p with
  | closed => rfl
  | opened k w => simp [pressUnclosed]

theorem missUnclosed_eq (frame : Nat) (p : PressWindow) : missUnclosed frame p = if (match p with
    | .opened k w => decide (k = w)
    | .closed => false) = true then [.pick frame none] else [] := by
  cases p with
  | closed => rfl
  | opened k w => simp [missUnclosed]

/-- R15: the state a FRAME START meets once the frame before it has closed unclosed. -/
def State.closedUnclosed (s : State) (n : Nat) : State :=
  let frame := s.decoder.frame
  { s with
    decoder := { s.decoder with phase := .idle, inHand := none, linkFault := false },
    trail := s.trail.retired n,
    resolver := { s.resolver with press := pressUnclosed s.resolver.press },
    hitSet := [],
    lane := s.lane.enqueueAll (missUnclosed frame s.resolver.press ++ summaryReports s true
      ++ [.faultUnclosed frame]) }

theorem closeUnclosed_opens {n : Nat} (phase : s.decoder.phase = .unclosing)
    (held : s.decoder.inHand = some (.frameStart low)) :
    closeFrame ((s.setPins pins).setTrail (s.trail.retired n)) =
      (openFrame low (clearArmed ((s.closedUnclosed n).setPins pins))).setOrders s.orders := by
  have phase' : ((s.setPins pins).setTrail (s.trail.retired n)).decoder.phase = .unclosing := phase
  have held' : ((s.setPins pins).setTrail (s.trail.retired n)).decoder.inHand = some (.frameStart low) := held
  unfold closeFrame
  rw [phase']
  unfold closeUnclosed
  dsimp only
  rw [held']
  rfl

theorem closedUnclosed_takes {n : Nat} (h : s.completesTo q n) (lawful : s.trail.outstanding ≤ 16) :
    (s.closedUnclosed n).takesAtOnce (.frameStart low pins) := by
  obtain ⟨high, line, free, -⟩ := id h
  refine ⟨high, line, stallCauses_eq_nil_iff.mpr
    ⟨fun _ => decide_eq_true (retired_windowOpen h lawful), nofun, nofun, nofun, free, high⟩⟩

/-- Settles O30: an unclosed close is the open of the next frame from IDLE, and what is held behind it is
taken in that frame. -/
theorem unclosedCloseReopens : Obligations.UnclosedCloseReopens := by
  intro q pins n low s h covers phase held lawful frame ends miss summary u
  have same : u = s.closedUnclosed n := by
    simp only [State.closedUnclosed, pressUnclosed_eq, missUnclosed_eq]
    rfl
  have run : exec (.frameStart low pins) u = .next (openFrame low (clearArmed (u.setPins pins))) :=
    exec_frameStart_idle (same ▸ closedUnclosed_takes h lawful) rfl
  have closed : exec (.completionNotice q pins) s =
      .next ((openFrame low (clearArmed (u.setPins pins))).setOrders s.orders) := by
    rw [exec_completion_closes h covers, same, closeUnclosed_opens phase held]
  have lines : ((openFrame low (clearArmed (u.setPins pins))).setOrders s.orders).pins = pins :=
    (after_completion h.1 closed).1
  have line : ((openFrame low (clearArmed (u.setPins pins))).setOrders s.orders).portLine = [] :=
    (openFrame_ports low _).portLine.trans h.2.1
  have empty : exec (.completionNotice q pins) { s with portLine := [] } =
      .next ((openFrame low (clearArmed (u.setPins pins))).setOrders s.orders) := by
    rw [← closed, ← h.2.1]
  refine ⟨_, run, rfl, closed, fun i item ok => ?_⟩
  rw [← List.nil_append [i], exec_completion_snoc h.1 empty]
  refine Eq.trans ?_ (exec_atPins item ok lines).symm
  refine congrArg Host.Outcome.next (present_atPins_drawing ?_ line rfl ?_).symm
  · exact (openFrame_ports low _).resetLow.trans h.1
  · exact h.2.2.1

end Unclosed

end Sys2Proof.Machine
end

section
/-! The normal close (R13): the Pick Resolver's judgement (R73 to R80), and the reports of the three blocks. -/

namespace Sys2Proof.Machine

/-! ## The menu index selected (R75) -/

section BestMenu
variable {c : Correlator} {j : Nat}

theorem foldl_range_keeps {β : Type} {f : β → Nat → β} {b : β} {P : Nat → β → Prop} (base : P 0 b)
    (step : ∀ i x, P i x → P (i + 1) (f x i)) (n : Nat) : P n ((List.range n).foldl f b) := by
  induction n with
  | zero => exact base
  | succ n ih =>
    rw [List.range_succ, List.foldl_append]
    exact step n _ ih

/-- What the search for the largest menu count has found below index `n`. -/
def BestBelow (c : Correlator) (n : Nat) : Option (Nat × Nat) → Prop
  | none => ∀ i, i < n → menuCount c i = 0
  | some (j, m) => j < n ∧ m = menuCount c j ∧ 0 < m ∧ (∀ i, i < n → menuCount c i ≤ m) ∧
      ∀ i, i < j → menuCount c i < m

theorem bestBelow_succ {n : Nat} {m : Nat} (found : BestBelow c n (some (j, m))) :
    BestBelow c (n + 1) (if m < menuCount c n then some (n, menuCount c n) else some (j, m)) := by
  obtain ⟨below, count, pos, most, first⟩ := found
  have split_last {i : Nat} (inside : i < n + 1) : i < n ∨ i = n := by omega
  split_ifs with more
  · refine ⟨Nat.lt_succ_self n, rfl, by omega, fun i inside => ?_, fun i inside => ?_⟩
    · obtain old | rfl := split_last inside
      · exact (most i old).trans more.le
      · exact le_rfl
    · exact (most i inside).trans_lt more
  · refine ⟨by omega, count, pos, fun i inside => ?_, first⟩
    obtain old | rfl := split_last inside
    · exact most i old
    · omega

theorem bestMenu_best (c : Correlator) : BestBelow c 24 (bestMenu c) := by
  have nothing : BestBelow c 0 none := fun i inside => absurd inside (Nat.not_lt_zero i)
  refine foldl_range_keeps (P := BestBelow c) nothing ?_ 24
  rintro n (_ | ⟨j, m⟩) found
  · dsimp only
    split_ifs with pos
    · refine ⟨Nat.lt_succ_self n, rfl, pos, fun i inside => ?_, fun i inside => ?_⟩
      · obtain old | rfl : i < n ∨ i = n := by omega
        · exact (found i old).le.trans (Nat.zero_le _)
        · exact le_rfl
      · exact (found i inside).trans_lt pos
    · intro i inside
      obtain old | rfl : i < n ∨ i = n := by omega
      · exact found i old
      · omega
  · exact bestBelow_succ found

theorem bestMenu_eq_none (h : ∀ j, j < 24 → menuCount c j = 0) : bestMenu c = none := by
  have best := bestMenu_best c
  cases found : bestMenu c with
  | none => rfl
  | some p =>
    rw [found] at best
    obtain ⟨below, count, pos, -⟩ := best
    rw [count, h p.1 below] at pos
    omega

theorem bestMenu_eq_some (inside : j < 24) (pos : 0 < menuCount c j)
    (most : ∀ i, i < 24 → menuCount c i ≤ menuCount c j)
    (first : ∀ i, i < j → menuCount c i < menuCount c j) : bestMenu c = some (j, menuCount c j) := by
  have best := bestMenu_best c
  cases found : bestMenu c with
  | none =>
    rw [found] at best
    have none_at := best j inside
    omega
  | some p =>
    obtain ⟨k, m⟩ := p
    rw [found] at best
    obtain ⟨below, rfl, -, most', first'⟩ := best
    have equal : menuCount c k = menuCount c j := le_antisymm (most k below) (most' j inside)
    obtain before | rfl | after := Nat.lt_trichotomy j k
    · exact absurd (first' j before) (by omega)
    · rfl
    · exact absurd (first k after) (by omega)

end BestMenu

/-! ## The menu action (R134) -/

section MenuAction
variable {t : MenuTable} {b : Button} {i j : Nat}

theorem placeAt_menuAction : placeAt (menuAction t j b) i = (placeAt t i).map fun c =>
    if i = j then
      { c with latched := match b.kind with
        | .momentary => c.latched
        | .toggle => !c.latched
        | .radio => true }
    else if b.kind = .radio ∧ c.kind = .radio ∧ c.group = b.group then { c with latched := false }
    else c := by
  unfold menuAction
  split
  next kind => simp [kind]
  next kind => simp [kind, placeAt_changeButton_map]
  next kind =>
    rw [placeAt_latch]
    cases at_i : placeAt t i with
    | none => rfl
    | some c =>
      have unlatched : latchedOther t j b i = true ↔
          i ≠ j ∧ c.kind = .radio ∧ c.group = b.group ∧ c.latched = true := by
        simp [latchedOther_iff, at_i]
      simp only [Option.map_some, kind, unlatched, true_and]
      by_cases same : i = j
      · simp [same]
      · cases lit : c.latched with
        | true => simp [same]
        | false =>
          have dark : { c with latched := false } = c := by rw [← lit]
          simp [same, dark]

theorem menuAction_places : menuAction t j b = { t with places := (menuAction t j b).places } := by
  unfold menuAction
  split <;> rfl

end MenuAction

/-! ## The judgement (R73 to R79) -/

section Judge
variable {s : State} {k w j : Nat} {b : Button} {r : HitRecord}

theorem passesGate_iff : s.passesGate r = true ↔ s.banks.params.radius = 0 ∨ s.pen.state ≠ .tracking ∨
    chebyshev r.point s.tracking.centre ≤ s.banks.params.radius := by
  simp only [State.passesGate, Bool.or_eq_true, beq_iff_eq, bne_iff_ne, decide_eq_true_eq, or_assoc]

theorem gatedWinner_eq_some_iff : s.gatedWinner = some r ↔
    s.resolutionRank.winner s.hitSet = some r ∧ s.passesGate r = true := Option.filter_eq_some_iff

theorem gatedWinner_eq_none_iff : s.gatedWinner = none ↔
    ¬∃ r, s.resolutionRank.winner s.hitSet = some r ∧ s.passesGate r = true := by
  rw [Option.eq_none_iff_forall_ne_some, not_exists]
  exact forall_congr' fun r => not_congr gatedWinner_eq_some_iff

theorem listPick_eq_some_iff : s.listPick = some r ↔ s.resolutionRank.winner s.hitSet = some r ∧
    s.banks.modes.pickOnPress = true ∧ s.tracking.drag = none ∧ s.passesGate r = true := by
  have gated : (s.banks.modes.pickOnPress && s.tracking.drag.isNone) = true ↔
      s.banks.modes.pickOnPress = true ∧ s.tracking.drag = none := by simp
  unfold State.listPick
  split_ifs with both
  · rw [gatedWinner_eq_some_iff]
    obtain ⟨pick, free⟩ := gated.mp both
    tauto
  · refine ⟨nofun, fun ⟨_, pick, free, _⟩ => absurd (gated.mpr ⟨pick, free⟩) both⟩

theorem listPick_eq_none_iff : s.listPick = none ↔ ¬∃ r, s.resolutionRank.winner s.hitSet = some r ∧
    s.banks.modes.pickOnPress = true ∧ s.tracking.drag = none ∧ s.passesGate r = true := by
  rw [Option.eq_none_iff_forall_ne_some, not_exists]
  exact forall_congr' fun r => not_congr listPick_eq_some_iff

theorem judge_closed (closed : s.resolver.press = .closed) :
    judge s = ⟨.closed, s.resolver.dragRequest, s.banks.menuLive, []⟩ := by
  unfold judge
  rw [closed]

theorem judge_picks (opened : s.resolver.press = .opened k w) (none_hit : bestMenu s.corr = none)
    (picked : s.listPick = some r) : judge s = pickRecord s r := by
  unfold judge
  rw [opened, none_hit, picked]

theorem judge_waits (opened : s.resolver.press = .opened k w) (none_hit : bestMenu s.corr = none)
    (unpicked : s.listPick = none) : judge s =
      ⟨if k = w then .closed else .opened k w, s.resolver.dragRequest, s.banks.menuLive,
        if k = w then [.pick s.decoder.frame none] else []⟩ := by
  unfold judge
  rw [opened, none_hit, unpicked]
  dsimp only
  split_ifs <;> rfl

theorem judge_selects (opened : s.resolver.press = .opened k w) {n : Nat}
    (hit : bestMenu s.corr = some (j, n)) (present : placeAt s.banks.menuLive j = some b) :
    judge s = ⟨.closed, s.resolver.dragRequest, menuAction s.banks.menuLive j b,
      [.menu s.decoder.frame j b.code (match b.kind with
        | .momentary => b.latched
        | .toggle => !b.latched
        | .radio => true)]⟩ := by
  have selected : judge s = menuSelection s j := by
    unfold judge
    rw [opened, hit]
  rw [selected]
  unfold menuSelection
  simp only [present, placeAt_menuAction, Option.map_some, if_true]

theorem judge_menu_places (s : State) :
    (judge s).menu = { s.banks.menuLive with places := (judge s).menu.places } := by
  unfold judge
  split
  · rfl
  · split
    · unfold menuSelection
      dsimp only
      split
      · rfl
      · exact menuAction_places
    · rfl
    · split_ifs <;> rfl

end Judge

/-! ## The reports of the close (R83, R99) -/

/-- The blocks that report at a close. -/
inductive CloseBlock where
  | resolver | pen | tracking
  deriving DecidableEq

/-- The block whose report at a close this is. -/
def Report.closeBlock : Report → CloseBlock
  | .trackAcquired .. | .trackLost .. => .pen
  | .dragEnd .. => .tracking
  | _ => .resolver

/-- What each block reports at a normal close. -/
def closeReports (s : State) : CloseBlock → List Report
  | .resolver => (judge s).reports ++ hoverReports s ++ summaryReports s false
  | .pen => (penAtClose s).reports
  | .tracking => (dragAtClose s).reports

section Reports
variable {s : State}

theorem judge_reports (s : State) :
    (judge s).reports.length ≤ 1 ∧ ∀ r ∈ (judge s).reports, r.closeBlock = .resolver := by
  unfold judge
  split
  · simp
  · split
    · unfold menuSelection
      dsimp only
      split <;> simp [Report.closeBlock]
    · simp [pickRecord, Report.closeBlock]
    · split_ifs <;> simp [Report.closeBlock]

theorem hoverReports_block (s : State) :
    (hoverReports s).length ≤ 1 ∧ ∀ r ∈ hoverReports s, r.closeBlock = .resolver := by
  unfold hoverReports
  split_ifs <;> simp [Report.closeBlock]

theorem summaryReports_block (s : State) (unclosed : Bool) :
    (summaryReports s unclosed).length ≤ 1 ∧
      ∀ r ∈ summaryReports s unclosed, r.closeBlock = .resolver := by
  unfold summaryReports
  split_ifs <;> simp [Report.closeBlock]

theorem penAtClose_reports (s : State) :
    (penAtClose s).reports.length ≤ 1 ∧ ∀ r ∈ (penAtClose s).reports, r.closeBlock = .pen := by
  have sighted (n : Nat) :
      (penSighted s n).reports.length ≤ 1 ∧ ∀ r ∈ (penSighted s n).reports, r.closeBlock = .pen := by
    unfold penSighted
    split_ifs <;> simp [Report.closeBlock]
  unfold penAtClose
  split
  · simp
  · split_ifs
    · exact sighted 1
    · simp
  · split_ifs
    · exact sighted _
    · simp
  · split_ifs <;> simp [Report.closeBlock]

theorem dragAtClose_reports (s : State) :
    (dragAtClose s).reports.length ≤ 1 ∧ ∀ r ∈ (dragAtClose s).reports, r.closeBlock = .tracking := by
  unfold dragAtClose
  split
  · simp
  · split_ifs <;> simp [Report.closeBlock]

theorem closeReports_block (s : State) (k : CloseBlock) : ∀ r ∈ closeReports s k, r.closeBlock = k := by
  cases k with
  | resolver =>
    intro r mem
    obtain (judged | hovered) | summed := (List.mem_append.mp mem).imp_left List.mem_append.mp
    · exact (judge_reports s).2 r judged
    · exact (hoverReports_block s).2 r hovered
    · exact (summaryReports_block s false).2 r summed
  | pen => exact (penAtClose_reports s).2
  | tracking => exact (dragAtClose_reports s).2

/-- R99: whatever the interleaving, the reports of one block are its own, in its order. -/
theorem filter_closeBlock {m : List Report} {k : CloseBlock}
    (perm : m.Perm [closeReports s .resolver, closeReports s .pen, closeReports s .tracking].flatten)
    (sub : (closeReports s k).Sublist m) : m.filter (fun r => r.closeBlock = k) = closeReports s k := by
  have own : (closeReports s k).filter (fun r => r.closeBlock = k) = closeReports s k :=
    List.filter_eq_self.mpr fun r mem => decide_eq_true (closeReports_block s k r mem)
  have other (l : CloseBlock) (apart : l ≠ k) : (closeReports s l).filter (fun r => r.closeBlock = k) = [] :=
    List.filter_eq_nil_iff.mpr fun r mem => by
      simp [closeReports_block s l r mem, apart]
  have all : ([closeReports s .resolver, closeReports s .pen, closeReports s .tracking].flatten.filter
      fun r => r.closeBlock = k) = closeReports s k := by
    simp only [List.flatten_cons, List.flatten_nil, List.filter_append, List.append_nil]
    cases k with
    | resolver =>
      rw [own, other .pen (by decide), other .tracking (by decide), List.append_nil, List.append_nil]
    | pen => rw [own, other .resolver (by decide), other .tracking (by decide), List.nil_append, List.append_nil]
    | tracking =>
      rw [own, other .resolver (by decide), other .pen (by decide), List.nil_append, List.nil_append]
  have length := (perm.filter fun r => r.closeBlock = k).length_eq
  have kept := sub.filter fun r => r.closeBlock = k
  rw [own] at kept
  rw [all] at length
  exact (kept.eq_of_length length.symm).symm

/-- R83, R99, R170: with room for all, the reports of a normal close at the end of the queue. -/
theorem closeNormal_lane (room : s.lane.queue.length + 5 ≤ 32) : ∃ m,
    (closeNormal s).lane = ReturnLane.fill { s.lane with queue := s.lane.queue ++ m } s.decoder.frame
      (fillAtClose s) ∧ ∀ k, m.filter (fun r => r.closeBlock = k) = closeReports s k := by
  have short : [closeReports s .resolver, closeReports s .pen, closeReports s .tracking].flatten.length ≤ 5 := by
    have j := (judge_reports s).1
    have h := (hoverReports_block s).1
    have u := (summaryReports_block s false).1
    have p := (penAtClose_reports s).1
    have d := (dragAtClose_reports s).1
    simp only [closeReports, List.flatten_cons, List.flatten_nil, List.length_append, List.length_nil]
    omega
  obtain ⟨m, queued, perm, subs⟩ := ReturnLane.enqueueAll_blocks (l := s.lane) s.freeIndex
    (blocks := [closeReports s .resolver, closeReports s .pen, closeReports s .tracking]) (by omega)
  refine ⟨m, congrArg (ReturnLane.fill · s.decoder.frame (fillAtClose s)) queued, fun k => ?_⟩
  refine filter_closeBlock perm (subs _ ?_)
  cases k <;> simp

end Reports

end Sys2Proof.Machine
end

section
/-! What a normal close leaves: the judgement and the hover (R72 to R83), the pen (R93 to R97), and the
centre, the drag and the slots (R106 to R108, R114). -/

namespace Sys2Proof.Machine

section Close
variable {q : BitVec 8} {pins : Pins} {n : Nat} {s t : State} {r : HitRecord}

/-- The state in which a frame in CLOSING is closed. -/
def State.completedTo (s : State) (pins : Pins) (n : Nat) : State :=
  { s with pins := pins, trail := s.trail.retired n }

theorem closeFrame_closing (closing : s.decoder.phase = .closing) : closeFrame s = closeNormal s := by
  unfold closeFrame
  rw [closing]

theorem exec_completion_closing (h : s.completesTo q n) (covers : s.coversFrameEnd n = true)
    (closing : s.decoder.phase = .closing) :
    exec (.completionNotice q pins) s = .next (closeNormal (s.completedTo pins n)) := by
  exact (exec_completion_closes h covers).trans
    (congrArg Host.Outcome.next (closeFrame_closing (s := s.completedTo pins n) closing))

theorem closed_of_exec (h : s.completesTo q n) (covers : s.coversFrameEnd n = true)
    (closing : s.decoder.phase = .closing) (e : exec (.completionNotice q pins) s = .next t) :
    t = closeNormal (s.completedTo pins n) := by
  rw [exec_completion_closing h covers closing] at e
  cases e
  rfl

/-! ## The hover (R80) -/

theorem hoverAtClose_off (off : ¬(s.banks.modes.hover = true ∧ s.pen.state = .tracking ∧
    s.tracking.drag = none)) : hoverAtClose s = s.resolver.lastHover := if_neg off

theorem hoverAtClose_on (on : s.banks.modes.hover = true) (tracking : s.pen.state = .tracking)
    (free : s.tracking.drag = none) : hoverAtClose s = (s.gatedWinner.map (·.path)).getD [] := by
  unfold hoverAtClose
  rw [if_pos ⟨on, tracking, free⟩]
  cases s.gatedWinner <;> rfl

/-! ## The next frame (R13) -/

theorem closeNormal_takes (h : s.completesTo q n) (lawful : s.trail.outstanding ≤ 16) {low : Low} {p : Pins} :
    (closeNormal (s.completedTo pins n)).takesAtOnce (.frameStart low p) := by
  obtain ⟨high, line, free, -⟩ := id h
  exact ⟨high, line, stallCauses_eq_nil_iff.mpr
    ⟨fun _ => decide_eq_true (retired_windowOpen h lawful), nofun, nofun, nofun, free, high⟩⟩

theorem exec_completion_reopens (h : s.completesTo q n) (covers : s.coversFrameEnd n = true)
    (closing : s.decoder.phase = .closing) (lawful : s.trail.outstanding ≤ 16) {low : Low} {p : Pins} :
    exec (.completionNotice q pins) { s with portLine := [.frameStart low p] } =
      exec (.frameStart low pins) (closeNormal (s.completedTo pins n)) := by
  have alone : exec (.completionNotice q pins) { s with portLine := [] } =
      .next (closeNormal (s.completedTo pins n)) := by
    rw [← exec_completion_closing h covers closing, ← h.2.1]
  exact exec_completion_takes (line := []) h.1 rfl rfl alone (closeNormal_takes h lawful)

/-- Settles O27: the close's judgement, hover and reports, and the open of a held FRAME START. -/
theorem normalCloseJudges : Obligations.NormalCloseJudges := by
  intro q pins n s h covers closing frame passes winner noMenu
  have gate (r : HitRecord) : s.passesGate r = true ↔ passes r := passesGate_iff
  refine ⟨closeNormal (s.completedTo pins n), (judge s).reports, exec_completion_closing h covers closing,
    rfl, congrArg (fun m => { s.banks with menuLive := m }) (judge_menu_places s), ?_, ?_, ?_, ?_, ?_, ?_, ?_⟩
  · intro k w j b opened inside pos most first present
    have judged := judge_selects opened (bestMenu_eq_some inside pos most first) present
    refine ⟨congrArg Judgement.press judged, congrArg Judgement.request judged, fun i _ => ?_,
      congrArg Judgement.reports judged⟩
    exact (congrArg (fun J : Judgement => placeAt J.menu i) judged).trans placeAt_menuAction
  · intro closed
    have judged := judge_closed closed
    exact ⟨congrArg Judgement.press judged, congrArg Judgement.request judged,
      congrArg (fun J : Judgement => { s.banks with menuLive := J.menu }) judged,
      congrArg Judgement.reports judged⟩
  · intro k w opened none_hit
    have none_best := bestMenu_eq_none none_hit
    have same : (judge s).menu = s.banks.menuLive := by
      cases picked : s.listPick with
      | none => rw [judge_waits opened none_best picked]
      | some r => rw [judge_picks opened none_best picked, pickRecord]
    refine ⟨congrArg (fun m => { s.banks with menuLive := m }) same, fun r won pick free passed => ?_,
      fun unpicked => ?_⟩
    · have judged := judge_picks opened none_best
        (listPick_eq_some_iff.mpr ⟨won, pick, free, (gate r).mpr passed⟩)
      exact ⟨congrArg Judgement.press judged, congrArg Judgement.request judged,
        congrArg Judgement.reports judged⟩
    · have judged := judge_waits opened none_best (listPick_eq_none_iff.mpr fun ⟨r, won, pick, free, passed⟩ =>
        unpicked ⟨r, won, pick, free, (gate r).mp passed⟩)
      exact ⟨congrArg Judgement.request judged, congrArg Judgement.press judged,
        congrArg Judgement.reports judged⟩
  · intro on tracking free
    have hover := hoverAtClose_on on tracking free
    refine ⟨fun r won passed => hover.trans ?_, fun lost => hover.trans ?_⟩
    · rw [gatedWinner_eq_some_iff.mpr ⟨won, (gate r).mpr passed⟩]
      rfl
    · rw [gatedWinner_eq_none_iff.mpr fun ⟨r, won, passed⟩ => lost ⟨r, won, (gate r).mp passed⟩]
      rfl
  · exact fun off => hoverAtClose_off off
  · intro low p lawful
    have run := exec_frameStart_idle (low := low) (closeNormal_takes (pins := pins) (p := pins) h lawful) rfl
    exact ⟨_, (exec_completion_reopens h covers closing lawful).trans run, run, rfl, rfl, h.2.1⟩
  · intro H S room
    obtain ⟨m, lane, blocks⟩ := closeNormal_lane (s := s.completedTo pins n) room
    rw [lane]
    refine ⟨ReturnLane.fill_lost .., ReturnLane.fill_lane .., m, ReturnLane.fill_queue .., ?_⟩
    refine Eq.trans (List.filter_congr fun r _ => ?_) (blocks .resolver)
    cases r <;> rfl

end Close

end Sys2Proof.Machine
end

section
/-! A normal close moves the pen (R93 to R97), the centre (R106, R107), the drag (R114) and the slots (R108). -/

namespace Sys2Proof.Machine

section Frame
variable {s : State}

theorem hasSighting_iff {c : Correlator} : c.hasSighting = true ↔ c.firstSighting ≠ none :=
  Option.isSome_iff_ne_none

theorem hasCross_iff {c : Correlator} : c.hasCross = true ↔
    0 < c.arms.e.count ∨ 0 < c.arms.n.count ∨ 0 < c.arms.w.count ∨ 0 < c.arms.s.count := by
  simp only [Correlator.hasCross, Bool.or_eq_true, decide_eq_true_eq, or_assoc]

theorem suspended_iff {t : Tracking} : t.suspended = true ↔ ∃ d, t.drag = some d ∧ d.suspended = true := by
  rw [Tracking.suspended_eq_any, Option.any_eq_true]

theorem trackLost_iff_rules : trackLost s = true ↔ s.pen.state = .tracking ∧
    ¬(0 < s.corr.arms.e.count ∨ 0 < s.corr.arms.n.count ∨ 0 < s.corr.arms.w.count ∨
      0 < s.corr.arms.s.count) ∧ ¬(∃ d, s.tracking.drag = some d ∧ d.suspended = true) ∧
    s.banks.params.lossFrames ≤ s.pen.loss + 1 := by
  rw [trackLost_iff, ← hasCross_iff, ← suspended_iff, Bool.not_eq_true, Bool.not_eq_true]

/-! ## The pen (R93 to R97) -/

theorem penSighted_pen (n : Nat) : (penSighted s n).pen = if s.banks.params.seenFrames ≤ n then
    { s.pen with state := .tracking, seen := 0, loss := 0 } else { s.pen with state := .seen, seen := n } := by
  unfold penSighted
  split_ifs <;> rfl

theorem penAtClose_stowed (h : s.pen.state = .stowed) : penAtClose s = ⟨s.pen, []⟩ := by
  unfold penAtClose
  rw [h]

theorem penAtClose_lifted (h : s.pen.state = .lifted) :
    penAtClose s = if s.corr.hasSighting = true then penSighted s 1 else ⟨s.pen, []⟩ := by
  unfold penAtClose
  rw [h]

theorem penAtClose_seen (h : s.pen.state = .seen) :
    penAtClose s = if s.corr.hasSighting = true then penSighted s (s.pen.seen + 1)
      else ⟨{ s.pen with state := .lifted, seen := 0 }, []⟩ := by
  unfold penAtClose
  rw [h]

theorem penAtClose_followed (h : s.pen.state = .tracking) (cross : s.corr.hasCross = true) :
    penAtClose s = ⟨{ s.pen with loss := 0 }, []⟩ := by
  unfold penAtClose
  rw [h]
  exact if_pos cross

theorem penAtClose_suspended (h : s.pen.state = .tracking) (dark : ¬s.corr.hasCross = true)
    (suspended : s.tracking.suspended = true) : penAtClose s = ⟨s.pen, []⟩ := by
  unfold penAtClose
  rw [h]
  exact (if_neg dark).trans (if_pos suspended)

theorem penAtClose_dark (h : s.pen.state = .tracking) (dark : ¬s.corr.hasCross = true)
    (free : ¬s.tracking.suspended = true) :
    penAtClose s = if s.banks.params.lossFrames ≤ s.pen.loss + 1 then
        ⟨{ s.pen with state := .lifted, seen := 0, loss := 0 },
          [.trackLost s.decoder.frame s.tracking.centre]⟩
      else ⟨{ s.pen with loss := s.pen.loss + 1 }, []⟩ := by
  have lost : trackLost s = true ↔ s.banks.params.lossFrames ≤ s.pen.loss + 1 := by
    rw [trackLost_iff]
    simp [h, dark, free]
  unfold penAtClose
  rw [h]
  refine (if_neg dark).trans ((if_neg free).trans ?_)
  simp only [lost]

/-- R94 to R96: an acquisition and a loss of the track are reported, and nothing else. -/
theorem penAtClose_reports_eq (s : State) : (penAtClose s).reports =
    if s.pen.state ≠ .tracking ∧ (penAtClose s).pen.state = .tracking then
      [.trackAcquired s.decoder.frame .sighted (closeCentre s)]
    else if s.pen.state = .tracking ∧ (penAtClose s).pen.state = .lifted then
      [.trackLost s.decoder.frame s.tracking.centre]
    else [] := by
  have sighted (n : Nat) : (penSighted s n).reports = if (penSighted s n).pen.state = .tracking then
      [.trackAcquired s.decoder.frame .sighted (closeCentre s)] else [] := by
    by_cases reached : s.banks.params.seenFrames ≤ n
    · simp [penSighted, reached, Pen.placed]
    · simp [penSighted, reached]
  cases state : s.pen.state with
  | stowed => simp [penAtClose_stowed state, state]
  | lifted =>
    rw [penAtClose_lifted state]
    by_cases seen : s.corr.hasSighting = true
    · simp [seen, sighted 1]
    · simp [seen, state]
  | seen =>
    rw [penAtClose_seen state]
    by_cases seen : s.corr.hasSighting = true
    · simp [seen, sighted (s.pen.seen + 1)]
    · simp [seen]
  | tracking =>
    by_cases cross : s.corr.hasCross = true
    · simp [penAtClose_followed state cross, state]
    · by_cases suspended : s.tracking.suspended = true
      · simp [penAtClose_suspended state cross suspended, state]
      · rw [penAtClose_dark state cross suspended]
        by_cases lost : s.banks.params.lossFrames ≤ s.pen.loss + 1
        · simp [lost]
        · simp [lost, state]

/-! ## The centre (R106, R107) -/

/-- R107: a step toward `m` of at most `limit`. -/
theorem add_limitMove (limit : Nat) (c m : Int) :
    c + limitMove limit (m - c) = max (c - limit) (min (c + limit) m) := by
  unfold limitMove
  split_ifs <;> omega

theorem axisUpdate_axisSpan (limit c : Nat) (a b : Accumulator) : axisUpdate limit c (axisSpan a b) =
    match (if 0 < a.count then a.span else none), (if 0 < b.count then b.span else none) with
    | some p, some r => max ((c : Int) - limit)
        (min (c + limit) (((min p.least r.least + max p.greatest r.greatest) / 2 : Nat) : Int))
    | some p, none => max ((c : Int) - limit) (min (c + limit) (((p.least + p.greatest) / 2 : Nat) : Int))
    | none, some r => max ((c : Int) - limit) (min (c + limit) (((r.least + r.greatest) / 2 : Nat) : Int))
    | none, none => (c : Int) := by
  unfold axisSpan
  dsimp only
  cases (if 0 < a.count then a.span else none) <;> cases (if 0 < b.count then b.span else none)
  · rfl
  all_goals exact add_limitMove limit c _

theorem closeCentre_tracking (h : s.pen.state = .tracking) (free : ¬s.tracking.suspended = true) :
    closeCentre s = if s.corr.hasCross = true then
      armUpdate s.banks.params s.tracking.centre s.corr.arms else s.tracking.centre := by
  unfold closeCentre
  rw [h]
  exact if_neg free

theorem closeCentre_suspended (h : s.pen.state = .tracking) (suspended : s.tracking.suspended = true) :
    closeCentre s = s.tracking.centre := by
  unfold closeCentre
  rw [h]
  exact if_pos suspended

theorem closeCentre_seen (h : s.pen.state = .seen) : closeCentre s = if s.corr.hasCross = true then
    armUpdate s.banks.params s.tracking.centre s.corr.arms else sightedCentre s := by
  unfold closeCentre
  rw [h]

theorem closeCentre_lifted (h : s.pen.state = .lifted) : closeCentre s = sightedCentre s := by
  unfold closeCentre
  rw [h]

theorem closeCentre_stowed (h : s.pen.state = .stowed) : closeCentre s = s.tracking.centre := by
  unfold closeCentre
  rw [h]

/-! ## The drag and the slots (R108, R114) -/

theorem dragAtClose_drag : (dragAtClose s).drag = if trackLost s = true then none else s.tracking.drag := by
  unfold dragAtClose
  cases s.tracking.drag with
  | none => simp
  | some d => split_ifs <;> rfl

theorem dragAtClose_reports_of {lost : Prop} [Decidable lost] (lost_iff : trackLost s = true ↔ lost) :
    (dragAtClose s).reports = match s.tracking.drag with
      | some d => if lost then [.dragEnd s.decoder.frame .lost s.tracking.centre
          (displacement s.tracking.centre d.origin)] else []
      | none => [] := by
  unfold dragAtClose
  cases s.tracking.drag with
  | none => rfl
  | some d =>
    simp only [← lost_iff]
    split_ifs <;> rfl

theorem ReturnLane.enqueueAll_slots (l : ReturnLane) (rs : List Report) :
    (l.enqueueAll rs).trackSlot = l.trackSlot ∧ (l.enqueueAll rs).dragSlot = l.dragSlot := by
  induction rs generalizing l with
  | nil => exact ⟨rfl, rfl⟩
  | cons r rs ih =>
    have one : (l.enqueue r).trackSlot = l.trackSlot ∧ (l.enqueue r).dragSlot = l.dragSlot := by
      unfold ReturnLane.enqueue
      split_ifs <;> exact ⟨rfl, rfl⟩
    exact ⟨(ih _).1.trans one.1, (ih _).2.trans one.2⟩

/-- R108: a change of the centre in TRACKING fills the slot of the drag record; a suspended drag leaves the
centre. -/
theorem fillAtClose_eq : fillAtClose s =
    if s.pen.state = .tracking ∧ closeCentre s ≠ s.tracking.centre then
      match s.tracking.drag with
      | none => .track (closeCentre s)
      | some d => .drag (closeCentre s) (displacement (closeCentre s) d.origin)
    else .none := by
  unfold fillAtClose
  dsimp only
  split_ifs with fills
  · cases drag : s.tracking.drag with
    | none => rfl
    | some d =>
      have free : ¬d.suspended = true := fun suspended =>
        fills.2 (closeCentre_suspended fills.1 (suspended_iff.mpr ⟨d, drag, suspended⟩))
      exact if_neg free
  · rfl

theorem fillAtClose_slots (l : ReturnLane) :
    let fills := s.pen.state = .tracking ∧ closeCentre s ≠ s.tracking.centre
    let u := l.fill s.decoder.frame (fillAtClose s)
    u.trackSlot = (if fills ∧ s.tracking.drag = none then
        some ⟨s.decoder.frame, closeCentre s,
          (l.trackSlot.map fun x => min (x.coalesced + 1) 255).getD 0⟩
      else l.trackSlot) ∧
    u.dragSlot = match s.tracking.drag with
      | some d => if fills then
          some ⟨s.decoder.frame, closeCentre s, displacement (closeCentre s) d.origin,
            (l.dragSlot.map fun x => min (x.coalesced + 1) 255).getD 0⟩
        else l.dragSlot
      | none => l.dragSlot := by
  dsimp only
  rw [fillAtClose_eq]
  by_cases fills : s.pen.state = .tracking ∧ closeCentre s ≠ s.tracking.centre
  · rw [if_pos fills]
    cases s.tracking.drag with
    | none => exact ⟨(fillTrack_coalesced _ _ _).trans (if_pos ⟨fills, rfl⟩).symm, rfl⟩
    | some d => exact ⟨(if_neg fun both => nomatch both.2).symm, (fillDrag_coalesced _ _ _ _).trans (if_pos fills).symm⟩
  · rw [if_neg fills]
    refine ⟨(if_neg fun both => fills both.1).symm, ?_⟩
    cases s.tracking.drag with
    | none => rfl
    | some d => exact (if_neg fills).symm

/-- The reports of a normal close as the blocks' choices interleave them. -/
def mergedReports (s : State) : List Report :=
  (interleave ([closeReports s .resolver, closeReports s .pen, closeReports s .tracking].flatten.length + 1)
    s.freeIndex [closeReports s .resolver, closeReports s .pen, closeReports s .tracking]).1

theorem closeNormal_lane_eq (s : State) : (closeNormal s).lane =
    (s.lane.enqueueAll (mergedReports s)).fill s.decoder.frame (fillAtClose s) := rfl

theorem closeNormal_slots (s : State) :
    let fills := s.pen.state = .tracking ∧ closeCentre s ≠ s.tracking.centre
    (closeNormal s).lane.trackSlot = (if fills ∧ s.tracking.drag = none then
        some ⟨s.decoder.frame, closeCentre s,
          (s.lane.trackSlot.map fun x => min (x.coalesced + 1) 255).getD 0⟩
      else s.lane.trackSlot) ∧
    (closeNormal s).lane.dragSlot = match s.tracking.drag with
      | some d => if fills then
          some ⟨s.decoder.frame, closeCentre s, displacement (closeCentre s) d.origin,
            (s.lane.dragSlot.map fun x => min (x.coalesced + 1) 255).getD 0⟩
        else s.lane.dragSlot
      | none => s.lane.dragSlot := by
  have slots := fillAtClose_slots (s := s) (s.lane.enqueueAll (mergedReports s))
  obtain ⟨track, drag⟩ := ReturnLane.enqueueAll_slots s.lane (mergedReports s)
  rw [track, drag] at slots
  exact slots

end Frame

/-! ## The obligations -/

/-- Settles O28: the Pen Monitor's work by the pen state, and its reports. -/
theorem normalCloseMovesPen : Obligations.NormalCloseMovesPen := by
  intro q pins n s t h covers closing e sighting a crossHits suspended sighted
  obtain rfl := closed_of_exec h covers closing e
  have seen_iff : s.corr.hasSighting = true ↔ sighting := hasSighting_iff
  have cross_iff : s.corr.hasCross = true ↔ crossHits := hasCross_iff
  have suspended_iff : s.tracking.suspended = true ↔ suspended := Machine.suspended_iff
  have pen {p : PenClose} (work : penAtClose s = p) :
      (closeNormal (s.completedTo pins n)).pen = p.pen := congrArg PenClose.pen work
  refine ⟨fun stowed => pen (penAtClose_stowed stowed), fun lifted unseen => ?_, fun lifted seen => ?_,
    fun was_seen unseen => ?_, fun was_seen seen => ?_, fun tracking cross => ?_,
    fun tracking dark held => ?_, fun tracking dark free => ?_, fun room => ?_⟩
  · exact pen ((penAtClose_lifted lifted).trans (if_neg fun seen => unseen (seen_iff.mp seen)))
  · exact (pen ((penAtClose_lifted lifted).trans (if_pos (seen_iff.mpr seen)))).trans (penSighted_pen 1)
  · exact pen ((penAtClose_seen was_seen).trans (if_neg fun seen => unseen (seen_iff.mp seen)))
  · exact (pen ((penAtClose_seen was_seen).trans (if_pos (seen_iff.mpr seen)))).trans (penSighted_pen _)
  · exact pen (penAtClose_followed tracking (cross_iff.mpr cross))
  · exact pen (penAtClose_suspended tracking (fun cross => dark (cross_iff.mp cross)) (suspended_iff.mpr held))
  · refine (pen (penAtClose_dark tracking (fun cross => dark (cross_iff.mp cross))
      fun held => free (suspended_iff.mp held))).trans ?_
    split_ifs <;> rfl
  · obtain ⟨m, lane, blocks⟩ := closeNormal_lane (s := s.completedTo pins n) room
    rw [lane]
    refine ⟨m, ReturnLane.fill_queue .., ?_⟩
    refine Eq.trans (List.filter_congr fun r _ => ?_) ((blocks .pen).trans (penAtClose_reports_eq s))
    cases r <;> rfl

/-- Settles O29: the Tracking Unit's work by the pen state, the drag's end and the slots. -/
theorem normalCloseMovesCentre : Obligations.NormalCloseMovesCentre := by
  intro q pins n s t h covers closing e a crossHits lo hi clamp limit toward axis moved sighted suspended lost
  obtain rfl := closed_of_exec h covers closing e
  have cross_iff : s.corr.hasCross = true ↔ crossHits := hasCross_iff
  have suspended_iff : s.tracking.suspended = true ↔ suspended := Machine.suspended_iff
  have lost_iff : trackLost s = true ↔ lost := trackLost_iff_rules
  have moved_eq : armUpdate s.banks.params s.tracking.centre s.corr.arms = moved :=
    congrArg₂ Point.mk (congrArg (clampCoord s.banks.params) (axisUpdate_axisSpan _ _ a.e a.w))
      (congrArg (clampCoord s.banks.params) (axisUpdate_axisSpan _ _ a.n a.s))
  have sighted_eq : sightedCentre s = sighted := rfl
  have centre {c : Point} (work : closeCentre s = c) :
      (closeNormal (s.completedTo pins n)).tracking.centre = c := work
  refine ⟨fun stowed => closeCentre_stowed stowed, fun lifted => ?_, fun was_seen => ?_,
    fun tracking held => ?_, fun tracking free => ?_, rfl, fun gone => ?_, fun kept => ?_, fun room => ?_, ?_⟩
  · exact centre ((closeCentre_lifted lifted).trans sighted_eq)
  · refine centre ((closeCentre_seen was_seen).trans ?_)
    rw [moved_eq, sighted_eq]
    exact if_congr cross_iff rfl rfl
  · exact closeCentre_suspended tracking (suspended_iff.mpr held)
  · refine centre ((closeCentre_tracking tracking fun held => free (suspended_iff.mp held)).trans ?_)
    rw [moved_eq]
    exact if_congr cross_iff rfl rfl
  · exact dragAtClose_drag.trans (if_pos (lost_iff.mpr gone))
  · exact dragAtClose_drag.trans (if_neg fun gone => kept (lost_iff.mp gone))
  · obtain ⟨m, lane, blocks⟩ := closeNormal_lane (s := s.completedTo pins n) room
    rw [lane]
    refine ⟨m, ReturnLane.fill_queue .., ?_⟩
    refine Eq.trans (List.filter_congr fun r _ => ?_) ((blocks .tracking).trans (dragAtClose_reports_of lost_iff))
    cases r <;> rfl
  · exact closeNormal_slots (s.completedTo pins n)

end Sys2Proof.Machine
end

section
/-! The output ports: the report whose first word passes (R172 to R175), its end, and the beam port (R3). -/

namespace Sys2Proof.Machine

section Choice
variable {l : ReturnLane} {x : TrackSlot} {y : DragSlot} {r : Report} {rest : List Report}

/-- R172: a slot that is owed a turn and is full comes first. -/
theorem choose_owedTrack (slot : l.trackSlot = some x) (owed : l.owedTrack = true) :
    l.choose = .track x := by
  simp [ReturnLane.choose, slot, owed]

theorem choose_owedDrag (slot : l.dragSlot = some y) (owed : l.owedDrag = true)
    (unowed : ¬(l.owedTrack = true ∧ l.trackSlot ≠ none)) : l.choose = .drag y := by
  have first : (if l.owedTrack = true then l.trackSlot else none) = none := by
    rw [ite_eq_right_iff]
    exact fun owedTrack => not_not.mp fun full => unowed ⟨owedTrack, full⟩
  unfold ReturnLane.choose
  rw [first, if_pos owed, slot]

section Unowed
variable (first : ¬(l.owedTrack = true ∧ l.trackSlot ≠ none)) (second : ¬(l.owedDrag = true ∧ l.dragSlot ≠ none))
include first second

theorem choose_unowed : l.choose = match l.queue, l.trackSlot, l.dragSlot with
    | r :: rest, _, _ => .queued r rest
    | [], some x, _ => .track x
    | [], none, some y => .drag y
    | [], none, none => .nothing := by
  have track : (if l.owedTrack = true then l.trackSlot else none) = none := by
    rw [ite_eq_right_iff]
    exact fun owed => not_not.mp fun full => first ⟨owed, full⟩
  have drag : (if l.owedDrag = true then l.dragSlot else none) = none := by
    rw [ite_eq_right_iff]
    exact fun owed => not_not.mp fun full => second ⟨owed, full⟩
  unfold ReturnLane.choose
  rw [track, drag]
  cases l.queue <;> cases l.trackSlot <;> cases l.dragSlot <;> rfl

theorem choose_queued (queue : l.queue = r :: rest) : l.choose = .queued r rest := by
  rw [choose_unowed first second, queue]

theorem choose_track (queue : l.queue = []) (slot : l.trackSlot = some x) : l.choose = .track x := by
  rw [choose_unowed first second, queue, slot]

theorem choose_drag (queue : l.queue = []) (empty : l.trackSlot = none) (slot : l.dragSlot = some y) :
    l.choose = .drag y := by
  rw [choose_unowed first second, queue, empty, slot]

theorem choose_nothing (queue : l.queue = []) (track : l.trackSlot = none) (drag : l.dragSlot = none) :
    l.choose = .nothing := by
  rw [choose_unowed first second, queue, track, drag]

end Unowed

end Choice

/-! ## The start of a report -/

section Start
variable {pins : Pins} {s : State} {x : TrackSlot} {y : DragSlot} {r : Report} {rest : List Report} {i : Instr}

theorem exec_reportStart_busy (busy : s.lane.lane ≠ .idle ∨ s.resetLow = true) :
    exec (.reportStart pins) s = .next { s with pins := pins } := by
  refine congrArg Host.Outcome.next (if_neg fun ⟨idle, high⟩ => ?_)
  obtain sending | low := busy
  · exact sending idle
  · exact Bool.noConfusion (low.symm.trans high)

theorem exec_reportStart_idle (idle : s.lane.lane = .idle) (high : s.resetLow = false) :
    exec (.reportStart pins) s = .next (reportStarts (s.setPins pins)) :=
  congrArg Host.Outcome.next (if_pos ⟨idle, high⟩)

theorem reportStarts_track (chosen : s.lane.choose = .track x) : reportStarts s = { s with
    lane := { s.lane with trackSlot := none, owedTrack := false, lane := .sending (trackReport x) } } := by
  unfold reportStarts passFirstWord
  rw [chosen]
  rfl

theorem reportStarts_drag (chosen : s.lane.choose = .drag y) : reportStarts s = { s with
    lane := { s.lane with dragSlot := none, owedDrag := false, lane := .sending (dragReport y) } } := by
  unfold reportStarts passFirstWord
  rw [chosen]
  rfl

theorem reportStarts_nothing (chosen : s.lane.choose = .nothing) : reportStarts s = s := by
  unfold reportStarts passFirstWord
  rw [chosen]

/-- The state with the first report of the queue passing and its place free. -/
def State.freed (s : State) (r : Report) (rest : List Report) : State :=
  s.setLane { s.lane with queue := rest, owedTrack := false, owedDrag := false, lane := .sending r }

theorem reportStarts_queued (chosen : s.lane.choose = .queued r rest) : reportStarts s =
    drainPort (if s.orderHeldByQueue = true then s.freed r rest else queueOverflow (s.freed r rest)) := by
  unfold reportStarts passFirstWord
  rw [chosen]
  rfl

/-- R175: the reports lost are counted in an OVERFLOW that takes the freed place. -/
theorem queueOverflow_freed (queue : s.lane.queue = r :: rest) (fits : s.lane.queue.length ≤ 32) :
    queueOverflow (s.freed r rest) = { s with lane := { s.lane with
      queue := if 0 < s.lane.lost then rest ++ [.overflow s.decoder.frame s.lane.lost] else rest,
      lost := 0, owedTrack := false, owedDrag := false, lane := .sending r } } := by
  have room : (s.freed r rest).lane.queue.length < 32 := by
    rw [queue] at fits
    exact fits
  unfold queueOverflow
  by_cases lost : 0 < s.lane.lost
  · rw [if_pos (show 0 < (s.freed r rest).lane.lost from lost), if_pos lost]
    dsimp only
    rw [ReturnLane.enqueue_room room]
    rfl
  · have none_lost : s.lane.lost = 0 := Nat.eq_zero_of_not_pos lost
    rw [if_neg (show ¬0 < (s.freed r rest).lane.lost from lost), if_neg lost, ← none_lost]
    rfl

theorem orderHeldByQueue_empty (line : s.portLine = []) : s.orderHeldByQueue = false := by
  unfold State.orderHeldByQueue
  rw [line]

theorem orderHeldByQueue_alone (line : s.portLine = [i]) (order : i.isOrder = true)
    (alone : stallCauses i s = [.queueFull]) : s.orderHeldByQueue = true := by
  unfold State.orderHeldByQueue
  rw [line]
  simp [order, alone]

theorem isStreamItem_of_isOrder (order : i.isOrder = true) : i.isStreamItem = true := by
  cases i <;> first | rfl | cases order

theorem seenPins_of_isOrder (order : i.isOrder = true) : s.seenPins i = s.pins := by
  cases i <;> first | rfl | cases order

theorem exec_order (order : i.isOrder = true) (ok : i.wellFormed = true) :
    exec i s = .next (present i s) := by
  have same : s.setPins (s.seenPins i) = s := by
    rw [seenPins_of_isOrder order]
    rfl
  rw [exec_streamItem (isStreamItem_of_isOrder order), same, presented, if_pos ok]

/-- Draining one held item is presenting it to an empty port. -/
theorem drainPort_single (line : s.portLine = [i]) (high : s.resetLow = false) :
    drainPort s = present i (s.setPortLine []) := by
  have low : ¬(s.setPortLine []).resetLow = true := by simpa using high
  unfold drainPort present
  rw [line, if_neg low]
  exact (drain_setPortLine [i] [] s).symm

/-- R173: the reports of the slots, and no others, have the two codes. -/
theorem slotReport_eq (r : Report) :
    (reportCode r != 0x0D && reportCode r != 0x0E) = !slotReport r := by
  cases r <;> rfl

/-- Settles O54: the arbiter's choice, the end of a report, and the beam port. -/
theorem outputPortsMove : Obligations.OutputPortsMove := by
  refine ⟨fun pins s => ?_, fun s => ⟨fun still => ?_, fun r sending high => ?_⟩, fun s => ?_⟩
  · intro owed owedToo
    refine ⟨exec_reportStart_busy, fun idle high => ⟨fun x slot due => ?_, fun x slot later due => ?_,
      fun queue track drag => ?_, fun r rest first second queue fits => ⟨fun line => ?_,
        fun i line order ok alone => ?_⟩⟩⟩ <;> rw [exec_reportStart_idle idle high]
    · have chosen : s.lane.choose = .track x := by
        by_cases turn : owed
        · exact choose_owedTrack slot turn.1
        · obtain ⟨later, queue⟩ := due.resolve_left turn
          exact choose_track turn later queue slot
      exact congrArg Host.Outcome.next (reportStarts_track (s := s.setPins pins) chosen)
    · have chosen : s.lane.choose = .drag x := by
        by_cases turn : owedToo
        · exact choose_owedDrag slot turn.1 later
        · obtain ⟨queue, track⟩ := due.resolve_left turn
          exact choose_drag later turn queue track slot
      exact congrArg Host.Outcome.next (reportStarts_drag (s := s.setPins pins) chosen)
    · have chosen : s.lane.choose = .nothing :=
        choose_nothing (fun ⟨_, full⟩ => full track) (fun ⟨_, full⟩ => full drag) queue track drag
      exact congrArg Host.Outcome.next (reportStarts_nothing (s := s.setPins pins) chosen)
    · have chosen : s.lane.choose = .queued r rest := choose_queued first second queue
      rw [reportStarts_queued (s := s.setPins pins) chosen, orderHeldByQueue_empty (s := s.setPins pins) line,
        if_neg Bool.false_ne_true, queueOverflow_freed (s := s.setPins pins) queue fits]
      exact congrArg Host.Outcome.next (drainPort_empty line)
    · have chosen : s.lane.choose = .queued r rest := choose_queued first second queue
      rw [reportStarts_queued (s := s.setPins pins) chosen,
        if_pos (orderHeldByQueue_alone (s := s.setPins pins) line order alone),
        drainPort_single (s := (s.setPins pins).freed r rest) line high, exec_order order ok]
      rfl
  · refine congrArg Host.Outcome.next ?_
    obtain idle | low := still
    · rw [idle]
    · cases s.lane.lane with
      | idle => rfl
      | sending r => exact if_pos low
  · refine congrArg Host.Outcome.next ?_
    rw [sending, slotReport_eq]
    refine (if_neg (by simp [high])).trans ?_
    cases slot : slotReport r with
    | true => simp; rfl
    | false => simp; rfl
  · refine congrArg Host.Outcome.next ?_
    rw [List.drop_one]
    rfl

end Start

end Sys2Proof.Machine
end

section
/-! The two resets: the reset line (R21, R22) and the in-band reset (R168, R176). -/

namespace Sys2Proof.Machine

section Resets
variable {q : BitVec 8} {tag : BitVec 8} {pins : Pins} {n : Nat} {i : Instr} {s u : State}

/-! ## The item taken after a reset -/

/-- In IDLE with the window open no cause holds a FRAME START but a RESET in hand. -/
theorem present_atPins_idle (high : u.resetLow = false) (line : u.portLine = [])
    (idle : u.decoder.phase = .idle) (room : u.trail.outstanding = 0) (free : u.orders.inHand = none) :
    present (atPins pins i) u = present i u := by
  cases i with
  | frameStart low p =>
    have window : u.windowOpen = true := by
      rw [State.windowOpen, room]
      rfl
    refine present_atPins ⟨high, line, stallCauses_eq_nil_iff.mpr ⟨fun _ => window, ?_, ?_, nofun, free, high⟩⟩
    · rw [idle]
      nofun
    · rw [idle]
      nofun
  | _ => rfl

theorem exec_atPins_idle (item : i.isStreamItem = true) (ok : i.wellFormed = true) (lines : u.pins = pins)
    (high : u.resetLow = false) (line : u.portLine = []) (idle : u.decoder.phase = .idle)
    (room : u.trail.outstanding = 0) (free : u.orders.inHand = none) :
    exec (atPins pins i) u = .next (present i u) :=
  (exec_atPins item ok lines).trans
    (congrArg Host.Outcome.next (present_atPins_idle high line idle room free))

/-! ## The reset line -/

/-- R22: the part as it starts when the line goes high with nothing waiting. -/
def State.restarted (s : State) (pins : Pins) : State :=
  { State.reset with pins := pins, freeIndex := s.freeIndex, pending := s.pending }

theorem exec_resetLineRelease_low (low : s.resetLow = true) : exec (.resetLineRelease pins) s =
    .next (s.lowArrivals.foldl arrive (drainPort ((s.restarted pins).setPortLine s.portLine))) :=
  congrArg Host.Outcome.next (if_pos low)

theorem arrive_streamItem (item : i.isStreamItem = true) : arrive u i = present i u := by
  have kind : i.isNotice = false := by cases i <;> first | rfl | cases item
  exact if_neg (by simp [kind])

/-! ## The in-band reset -/

theorem exec_inBandReset_idle (free : s.orders.inHand = none) :
    exec (.inBandResetPerformed pins) s = .next { s with pins := pins } := by
  have none_held : (s.setPins pins).orders.inHand = none := free
  change execInBandResetPerformed pins s = _
  unfold execInBandResetPerformed
  dsimp only
  rw [none_held]
  rfl

theorem exec_inBandReset_held (held : s.orders.inHand = some tag) :
    exec (.inBandResetPerformed pins) s = .next (if s.drained = true then
      drainPort (performInBandReset tag (s.setPins pins)) else { s with pins := pins }) := by
  have in_hand : (s.setPins pins).orders.inHand = some tag := held
  change execInBandResetPerformed pins s = _
  unfold execInBandResetPerformed
  dsimp only
  rw [in_hand]
  rfl

/-- R168: the reset at the end of a completion's event. -/
theorem endDrain_held (held : s.orders.inHand = some tag) : endDrain s =
    if s.trail.outstanding = 0 ∧ s.decoder.phase ≠ .overlay ∧ s.overlay.emission = .idle then
      performInBandReset tag s else s := by
  have due : (s.drained && !s.overlay.emission.emitting) = true ↔
      s.trail.outstanding = 0 ∧ s.decoder.phase ≠ .overlay ∧ s.overlay.emission = .idle := by
    rw [Bool.and_eq_true, drained_iff, Bool.not_eq_true', ← Bool.not_eq_true, emitting_iff, not_not]
    constructor
    · exact fun ⟨⟨none_out, overlay⟩, idle⟩ => ⟨none_out, fun phase => overlay phase idle, idle⟩
    · exact fun ⟨none_out, phase, idle⟩ => ⟨⟨none_out, fun overlay => absurd overlay phase⟩, idle⟩
  unfold endDrain
  rw [held]
  exact if_congr due rfl rfl

theorem exec_completion_named {e : Entry} (high : s.resetLow = false) (line : s.portLine = [])
    (named : s.trail.named q.toNat = some (n, e)) (outstanding : e.completed = false) :
    exec (.completionNotice q pins) s =
      .next (endDrain (if s.coversFrameEnd n = true then closeFrame (s.completedTo pins n)
        else s.completedTo pins n)) := by
  rw [exec_completion_high high, drainPort_empty]
  · exact congrArg Host.Outcome.next (takeCompletion_outstanding (s := s.setPins pins) named outstanding)
  · exact (takeCompletion_ports q.toNat (s.setPins pins)).portLine.trans line

theorem closeFrame_overlay (overlay : s.decoder.phase = .overlay) : closeFrame s = s := by
  unfold closeFrame
  rw [overlay]

theorem ReturnLane.enqueueAll_lane (l : ReturnLane) (rs : List Report) : (l.enqueueAll rs).lane = l.lane := by
  induction rs generalizing l with
  | nil => rfl
  | cons r rs ih =>
    have one : (l.enqueue r).lane = l.lane := by
      unfold ReturnLane.enqueue
      split_ifs <;> rfl
    exact (ih _).trans one

/-- A close leaves the report in passing alone. -/
theorem closeNormal_passing (s : State) : (closeNormal s).lane.lane = s.lane.lane := by
  rw [closeNormal_lane_eq, ReturnLane.fill_lane, ReturnLane.enqueueAll_lane]

/-- Settles O55: the fall and the release of the line, the command that performs the in-band reset, and the
completion that ends its drain. -/
theorem resetsRestart : Obligations.ResetsRestart := by
  refine ⟨fun s => rfl, fun pins s => ?_, fun pins tag s => ?_⟩
  · intro up
    refine ⟨fun high => congrArg Host.Outcome.next (if_neg (by simp [high])), fun low line arrivals => ?_,
      fun i low waits item ok => ?_⟩
    · rw [exec_resetLineRelease_low low, arrivals, line]
      exact congrArg Host.Outcome.next (drainPort_empty rfl)
    · rw [exec_resetLineRelease_low low]
      refine Eq.trans ?_ (exec_atPins_idle (u := up) item ok rfl rfl rfl rfl rfl rfl).symm
      refine congrArg Host.Outcome.next ?_
      obtain ⟨line, arrivals⟩ | ⟨line, arrivals⟩ := waits
      · rw [arrivals, line, drainPort_empty rfl]
        exact arrive_streamItem item
      · rw [arrivals, line]
        exact drainPort_single (s := (s.restarted pins).setPortLine [i]) rfl rfl
  · intro due anew
    have due_iff : s.drained = true ↔ due := drained_iff
    refine ⟨fun still => ?_, fun held ready line => ?_, fun i held ready high line item ok => ?_,
      fun q n e held high line named outstanding => ?_⟩
    · by_cases held : s.orders.inHand = none
      · exact exec_inBandReset_idle held
      · obtain ⟨t, held'⟩ := Option.ne_none_iff_exists'.mp held
        rw [exec_inBandReset_held held', if_neg fun ready => (still.resolve_left held) (due_iff.mp ready)]
    · rw [exec_inBandReset_held held, if_pos (due_iff.mpr ready),
        drainPort_empty (s := performInBandReset tag (s.setPins pins)) line]
      exact congrArg Host.Outcome.next (performInBandReset_empty (s := s.setPins pins) line)
    · rw [exec_inBandReset_held held, if_pos (due_iff.mpr ready),
        drainPort_single (s := performInBandReset tag (s.setPins pins)) line high]
      exact (exec_atPins_idle (u := anew) item ok rfl high rfl rfl rfl rfl).symm
    · rw [exec_completion_named high line named outstanding]
      refine ⟨fun overlay => ?_, fun open_frame phase idle none_out => ?_,
        fun covers closing idle none_out => ?_⟩
      · have same : (if s.coversFrameEnd n = true then closeFrame (s.completedTo pins n)
            else s.completedTo pins n) = s.completedTo pins n := by
          rw [closeFrame_overlay (s := s.completedTo pins n) overlay, ite_self]
        rw [same, endDrain_held (s := s.completedTo pins n) held, if_neg fun ready => ready.2.1 overlay]
        rfl
      · rw [if_neg (by simp [open_frame]), endDrain_held (s := s.completedTo pins n) held,
          if_pos ⟨none_out, phase, idle⟩]
        exact congrArg Host.Outcome.next (performInBandReset_empty (s := s.completedTo pins n) line)
      · refine ⟨(closeNormal (s.completedTo pins n)).freeIndex, ?_⟩
        rw [if_pos covers, closeFrame_closing (s := s.completedTo pins n) closing,
          endDrain_held (s := closeNormal (s.completedTo pins n)) held, if_pos ⟨none_out, nofun, idle⟩,
          performInBandReset_empty (s := closeNormal (s.completedTo pins n)) line, closeNormal_passing]
        rfl

end Resets

end Sys2Proof.Machine
end
